-- ==== Sys2Proof/Word.lean ====
section
/-! DEFINITION. The words the manual treats as bits, and the index types of its fixed tables. -/
namespace Sys2Proof

/-- One byte of a frame. -/
abbrev Byte := BitVec 8
/-- A card's 48-bit media number; bit 0 is the least significant bit of its last byte (R183). -/
abbrev Media := BitVec 48
/-- A gate unit's number for one tap (R9). -/
abbrev TapNumber := BitVec 16
/-- The station computer's number for a sailing (R60). -/
abbrev SailingId := BitVec 16
/-- A record's sequence number, which wraps from 65,535 to 0 (R134). -/
abbrev SeqNumber := BitVec 16
/-- Gate and gate lane number, 0 to 15 (R1). -/
abbrev Gate := Fin 16
/-- Berth number, 0 to 3 (R60). -/
abbrev BerthNo := Fin 4
/-- Pass slot number, 0 to 63 (R104). -/
abbrev SlotNo := Fin 64
/-- Rank of an entry of the media filter list, 0 to 127 (R45). -/
abbrev FilterIndex := Fin 128
/-- Line code, 0 to 31 (R60). -/
abbrev LineCode := Fin 32

end Sys2Proof
end

