-- ==== Sys2Proof/Syntax.lean ====
section
/-! DEFINITION. The commands of the part: one constructor for each row of spec/opcode_table.json, in its order. -/
namespace Sys2Proof

/-- The steps of the part. A management command has no operand of its own: its arguments stand in the MGMT frame at
the front of the receive list, which the command takes (R169, R170; log 1). -/
inductive Instr
  /-- TAP (R11): bytes arrive on a gate lane. -/
  | tap (lane : Gate) (bytes : List Byte)
  /-- PASSAGE (R18): bytes arrive on a gate lane. -/
  | passage (lane : Gate) (bytes : List Byte)
  /-- TAP_WAIT_EXPIRY (R14) of the PENDING transaction with this tap number. -/
  | tapWaitExpiry (gate : Gate) (tap : TapNumber)
  /-- PASSAGE_WINDOW_EXPIRY (R22) of the AWAITING_PASSAGE transaction with this tap number. -/
  | passageWindowExpiry (gate : Gate) (tap : TapNumber)
  /-- GRANT (R30). -/
  | grant
  /-- SAILING_STAGE, stage 1 (R32). -/
  | sailingStage
  /-- CARD_DATA_STAGE, stage 2 (R33). -/
  | cardDataStage
  /-- FILTER_SEARCH, the start of stage 3 (R49). -/
  | filterSearch
  /-- FILTER_SEARCH_COMPLETE, the end of stage 3 (R54). -/
  | filterSearchComplete
  /-- PRODUCT_STAGE, stage 4 (R35). -/
  | productStage
  /-- CAPACITY_STAGE, stage 5 (R36). -/
  | capacityStage
  /-- PRODUCT_KIND_STAGE, stage 6 (R37). -/
  | productKindStage
  /-- FARE_STAGE, stage 7 (R38). -/
  | fareStage
  /-- VERDICT, stage 8 (R39). -/
  | verdict
  /-- MGMT_FRAME_ARRIVAL (R169): bytes arrive on the uplink. -/
  | mgmtFrameArrival (bytes : List Byte)
  /-- UNKNOWN_COMMAND (R169). -/
  | unknownCommand
  /-- SET_TIME (R164). -/
  | setTime
  /-- SET_LIMITS (R61). -/
  | setLimits
  /-- SET_PARAMETERS (R162). -/
  | setParameters
  /-- SET_ALERT_MASK (R168). -/
  | setAlertMask
  /-- GATE_CONFIG (R3). -/
  | gateConfig
  /-- LOAD_FILTER (R52). -/
  | loadFilter
  /-- LOAD_FARE (R120). -/
  | loadFare
  /-- CLEAR_BANK (R122). -/
  | clearBank
  /-- ACTIVATE_BANK (R124). -/
  | activateBank
  /-- READ_ENTRY (R127). -/
  | readEntry
  /-- LOAD_SLOT (R106). -/
  | loadSlot
  /-- CLEAR_SLOT (R107). -/
  | clearSlot
  /-- OPEN_SAILING (R65). -/
  | openSailing
  /-- DEPART (R72). -/
  | depart
  /-- MUSTER_START (R147). -/
  | musterStart
  /-- MUSTER_END (R147). -/
  | musterEnd
  /-- START_SERVICE (R158). -/
  | startService
  /-- STOP_SERVICE (R160). -/
  | stopService
  /-- FETCH_RECORDS (R139). -/
  | fetchRecords
  /-- ACK_RECORDS (R140). -/
  | ackRecords
  /-- STATUS (R175). -/
  | status
  /-- RESET (R166). -/
  | reset
  /-- UPLINK_FRAME_SENT (R173). -/
  | uplinkFrameSent
  /-- LANE_FRAME_SENT (R8). -/
  | laneFrameSent (lane : Gate)
  /-- COMMAND_RESET_BEGIN (R166). -/
  | commandResetBegin
  /-- COMMAND_RESET_END (R165). -/
  | commandResetEnd
  /-- POWER_UP (R165). -/
  | powerUp
  /-- POWER_UP_COMPLETE (R165). -/
  | powerUpComplete
  /-- RESET_LINE_ASSERTED (R165). -/
  | resetLineAsserted
  /-- RESET_LINE_RELEASED (R165). -/
  | resetLineReleased
  /-- MUSTER_LINE_ASSERTED (R148). -/
  | musterLineAsserted
  /-- MUSTER_LINE_RELEASED (R148). -/
  | musterLineReleased
  /-- CLOCK_SECOND (R163). -/
  | clockSecond
  deriving DecidableEq, Repr

end Sys2Proof
end

