-- ==== Sys2Proof/Decode.lean ====
section
/-! DEFINITION. The commands that table words spell. spec/opcode_table.json gives no row any bits (every "fields" is
empty and no row has "fixed"): the part has no opcode words. So no word spells a command. The byte layouts of the
frames are in Machine/Frames.lean and Machine/Operands.lean. -/
namespace Sys2Proof

/-- The command that the low `nbits` bits of `w` spell in the table: none, since the table gives no bits (log 25). -/
def decodeTableWord (_nbits _w : Nat) : Option Instr := none

end Sys2Proof
end

