-- ==== Sys2Proof/Machine/Bytes.lean ====
section
/-! DEFINITION. Byte order (R183): multi-byte quantities are sent most significant byte first. -/
namespace Sys2Proof.Machine

/-- The `n` low bytes of `v`, most significant first (R183). -/
def beBytes : Nat → Nat → List Byte
  | 0, _ => []
  | n + 1, v => beBytes n (v / 256) ++ [BitVec.ofNat 8 v]

/-- The number that bytes spell, most significant first (R183). -/
def natOfBytes (bs : List Byte) : Nat :=
  bs.foldl (fun acc b => acc * 256 + b.toNat) 0

/-- The number in the `size` bytes at offset `off`. -/
def fieldNat (bs : List Byte) (off size : Nat) : Nat :=
  natOfBytes ((bs.drop off).take size)

/-- The byte at offset `off`. -/
def fieldByte (bs : List Byte) (off : Nat) : Byte :=
  BitVec.ofNat 8 (fieldNat bs off 1)

/-- The 16-bit field at offset `off`. -/
def field16 (bs : List Byte) (off : Nat) : BitVec 16 :=
  BitVec.ofNat 16 (fieldNat bs off 2)

/-- The 24-bit field at offset `off`. -/
def field24 (bs : List Byte) (off : Nat) : BitVec 24 :=
  BitVec.ofNat 24 (fieldNat bs off 3)

/-- The 32-bit field at offset `off`. -/
def field32 (bs : List Byte) (off : Nat) : BitVec 32 :=
  BitVec.ofNat 32 (fieldNat bs off 4)

/-- The media number at offset `off` (R183). -/
def field48 (bs : List Byte) (off : Nat) : Media :=
  BitVec.ofNat 48 (fieldNat bs off 6)

/-- A flags byte; bit n is the n-th entry (R183: bits not named are sent as 0). -/
def flagByte (bits : List Bool) : Byte :=
  BitVec.ofNat 8 (bits.foldr (fun b acc => acc * 2 + b.toNat) 0)

/-- A one-byte flag: yes, masked, loaded is 1 (R183). -/
def boolByte (b : Bool) : Byte := if b then 1 else 0

/-- A signed number in four bytes, two's complement (R183). -/
def signedBytes (v : Int) : List Byte :=
  beBytes 4 (BitVec.ofInt 32 v).toNat

end Sys2Proof.Machine
end

