-- ==== Sys2Proof/Config.lean ====
section
/-! DEFINITION. The fixed sizes the manual gives, and the two free values. -/
namespace Sys2Proof.Config

/-- Written records plus reserved slots never exceed this (R137). -/
def queueCapacity : Nat := 256
/-- Frames the outgoing list holds (R173). -/
def outgoingCapacity : Nat := 64
/-- A frame is taken only while frames waiting plus replies owed number this or fewer (R170). -/
def takeLimit : Nat := 47
/-- MGMT frames the receive list holds (R170). -/
def receiveCapacity : Nat := 8
/-- Longest payload of a frame (R180). -/
def maxPayload : Nat := 120
/-- Seconds of a service day (R163). -/
def daySeconds : Nat := 86400
/-- Service days before the day returns to 0 (R163). -/
def dayCount : Nat := 65536

/-- FREE VALUE (log 7): the capacity stage 5 reads for a sailing that has closed since stage 1.
The manual gives none. The argument counts the uses. -/
opaque closedCapacity : Nat → Nat
/-- FREE VALUE (log 7): the occupancy stage 5 reads for a sailing that has closed since stage 1. -/
opaque closedOccupancy : Nat → Nat

end Sys2Proof.Config
end

