-- ==== Sys2Proof/Machine/State.lean ====
section
/-! DEFINITION. The state of the part, block by block, and its value after a POWER reset. -/
namespace Sys2Proof.Machine

/-- What stops the machine: nothing. The manual names no event that stops the part; a command it cannot take is
refused with a REPLY, discarded, counted or answered with a VERDICT, and the part goes on. -/
inductive Fault
  deriving DecidableEq, Repr

/-- Why a command has no meaning. -/
inductive Refusal
  /-- Raised by `exec` alone, in the arm of a command not modelled yet. Safe: the model stops. -/
  | notModelled (mnemonic : String)
  deriving DecidableEq, Repr

/-! ### Times and timers -/

/-- A service time: a service day, 0 to 65,535, and a second of it, 0 to 86,399 (R163). -/
structure ServiceTime where
  day : Nat
  second : Nat
  deriving DecidableEq, Repr

/-- A timer on the time base: the tenth it started at and its length in tenths (R14, R22). -/
structure Timer where
  start : Nat
  length : Nat
  deriving DecidableEq, Repr

/-! ### Fare Table Banks (R117, R118) -/

/-- The two banks (R117). -/
inductive BankName | bankA | bankB
  deriving DecidableEq, Repr

/-- The kind of a fare product (R118). -/
inductive ProductKind | storedValue | periodPass | cappedPass
  deriving DecidableEq, Repr

/-- A loaded product entry; bit n of `lines` is line n of the line set (R118, R185). -/
structure ProductEntry where
  kind : ProductKind
  lines : BitVec 32
  deriving DecidableEq, Repr

/-- A loaded band entry (R118). -/
structure BandEntry where
  base : Nat
  floor : Nat
  ceiling : Nat
  curve : Fin 4
  window : Nat
  cap : Nat
  deriving DecidableEq, Repr

/-- One point of a demand curve: source, starting value, slope (R85). -/
structure CurvePoint where
  source : Nat
  value : Nat
  slope : Nat
  deriving DecidableEq, Repr

/-- A loaded curve entry (R85). -/
structure CurveEntry where
  value0 : Nat
  slope0 : Nat
  point1 : CurvePoint
  point2 : CurvePoint
  point3 : CurvePoint
  deriving DecidableEq, Repr

/-- The contents of an entry of one of the four tables (R118). -/
inductive TableEntry
  | product (e : ProductEntry)
  | band (e : BandEntry)
  | curve (e : CurveEntry)
  | concession (factor : Nat)
  deriving DecidableEq, Repr

/-- One fare table bank: four tables of entries, each loaded or not, and the loaded count (R117). -/
structure Bank where
  products : Vector (Option ProductEntry) 64
  bands : Vector (Option BandEntry) 32
  curves : Vector (Option CurveEntry) 4
  concessions : Vector (Option Nat) 8
  count : Nat
  deriving DecidableEq, Repr

/-- A bank with every entry unloaded (R122, R129). -/
def Bank.empty : Bank where
  products := Vector.replicate 64 none
  bands := Vector.replicate 32 none
  curves := Vector.replicate 4 none
  concessions := Vector.replicate 8 none
  count := 0

/-- The waiting activation: the bank it names and the tag its REPLY is owed to (R126). -/
structure WaitingActivation where
  bank : BankName
  tag : Byte
  deriving DecidableEq, Repr

/-! ### Media Filter (R45) -/

/-- The action of an enabled filter entry; the slot index is there for SLOT alone (R45). -/
inductive FilterAction
  | accept
  | inspect
  | refuse
  | priority
  | slot (k : SlotNo)
  deriving DecidableEq, Repr

/-- How an entry tests the media number (R46). -/
inductive FilterKind | range | pair | masked
  deriving DecidableEq, Repr

/-- An enabled filter entry (R45); `issuer` is `none` for ANY. A disabled entry is no rule at all. -/
structure FilterRule where
  action : FilterAction
  kind : FilterKind
  first : Media
  second : Media
  issuer : Option Byte
  deriving DecidableEq, Repr

/-- A valid LOAD_FILTER write that waits on a search (R54). -/
structure FilterWrite where
  tag : Byte
  index : FilterIndex
  entry : Option FilterRule
  deriving DecidableEq, Repr

/-- The last priority match record (R57). -/
structure PriorityMatch where
  gate : Gate
  index : FilterIndex
  media : Media
  time : ServiceTime
  deriving DecidableEq, Repr

/-- The default action of the filter list (R50). -/
inductive DefaultAction | accept | refuse
  deriving DecidableEq, Repr

/-! ### Cards, verdicts and transactions (R9) -/

/-- A card's last boarding, as the TAP carried it (R9, R184). -/
structure LastBoarding where
  line : Byte
  day : BitVec 16
  second : BitVec 24
  farePaid : BitVec 16
  deriving DecidableEq, Repr

/-- Card data, kept as the TAP carried it, out-of-range values included (R9). -/
structure CardData where
  media : Media
  issuer : Byte
  product : Byte
  concession : Byte
  /-- Four bytes, two's complement (R183). -/
  balance : BitVec 32
  lastBoarding : Option LastBoarding
  passExpiry : Option (BitVec 16)
  deriving DecidableEq, Repr

/-- The refusal reasons, in the order of the table in 2.4 (R183 codes them from 1). -/
inductive Reason
  | noSailing | departing | cardData | listed | noProduct | noFare | full | expired | lineNotCovered
  | slotMismatch | passback | passUsedUp | lowBalance
  deriving DecidableEq, Repr

/-- The outcomes a VERDICT frame carries, in the order of their codes from 1 (R183). -/
inductive VerdictOutcome
  | opened | openInspect | openCrew | refuse | notInService | muster | gateClosed | busy | retry
  deriving DecidableEq, Repr

/-- What a transaction keeps of its decision: the verdict fields of R9, the sailing it was decided on and whether the
filter action was PRIORITY, which its record carries (R69, R132; log 19). -/
structure Verdict where
  outcome : VerdictOutcome
  reason : Option Reason
  charged : Nat
  fareValue : Nat
  credit : Nat
  newBalance : Option Int
  inspect : Bool
  crew : Bool
  filterIndex : Option FilterIndex
  bank : BankName
  time : ServiceTime
  sailing : Option SailingId
  deriving DecidableEq, Repr

/-- What the Berth Table must convert or release when a transaction ends (R9). -/
inductive PlaceKind | passenger | crew | nothing
  deriving DecidableEq, Repr

/-- What a transaction holds while it waits for its passage: verdict, passage window timer, place kind, pass slot (R16). -/
structure Awaiting where
  verdict : Verdict
  window : Timer
  place : PlaceKind
  slot : Option SlotNo
  deriving DecidableEq, Repr

/-- The state of a transaction with what it holds in that state: the tap wait timer while PENDING (R12), nothing more
while DECIDING, the verdict and what follows from it while AWAITING_PASSAGE (R16). -/
inductive TxState
  | pending (wait : Timer)
  | deciding
  | awaiting (a : Awaiting)
  deriving DecidableEq, Repr

/-- A gate context's record of one tap (R9). -/
structure Transaction where
  tap : TapNumber
  card : CardData
  arrival : Nat
  state : TxState
  deriving DecidableEq, Repr

/-! ### Gate Port (R1, R2) -/

/-- Counting mode of a gate (R2). -/
inductive Counting | confirmed | direct
  deriving DecidableEq, Repr

/-- Lane kind of a gate (R2). -/
inductive LaneKind | standard | tandem
  deriving DecidableEq, Repr

/-- The five settings of a gate; `berth` is `none` for NONE (R2). -/
structure GateSettings where
  enabled : Bool
  berth : Option BerthNo
  priority : Fin 4
  counting : Counting
  lane : LaneKind
  deriving DecidableEq, Repr

/-- The defaults of R2. -/
def GateSettings.default : GateSettings where
  enabled := false
  berth := none
  priority := 0
  counting := .confirmed
  lane := .standard

/-- Gate state (R4). -/
inductive GateState | disabled | draining | active
  deriving DecidableEq, Repr

/-- The three modes of R5. -/
inductive GateMode | normal | closed | freeEgress
  deriving DecidableEq, Repr

/-- A gate context (R1); `modeSent` is `none` for UNSENT. -/
structure GateContext where
  config : GateSettings
  state : GateState
  list : List Transaction
  modeSent : Option GateMode
  badFrames : Nat
  strays : Nat
  deriving DecidableEq, Repr

/-- A frame the part sends on a gate lane (R182, R184). -/
inductive GateFrame
  | verdict (tap : TapNumber) (outcome : VerdictOutcome) (reason : Option Reason) (charged : Nat)
      (newBalance : Option Int) (inspect : Bool)
  | gateMode (mode : GateMode)
  deriving DecidableEq, Repr

/-- A link receiver: hunting for a start mark, or reading with the bytes taken after it (R181). -/
inductive Receiver
  | hunting
  | reading (got : List Byte)
  deriving DecidableEq, Repr

/-! ### Fare Engine (R31) -/

/-- Which step of the decision comes next. Stage 3 is two steps: it begins the search and ends it (R49). -/
inductive Stage
  | sailing | cardData | filter | searching | product | capacity | productKind | fare | verdict
  deriving DecidableEq, Repr

/-- The sailing found at stage 1 (R31). -/
structure SailingFound where
  berth : BerthNo
  id : SailingId
  line : LineCode
  deriving DecidableEq, Repr

/-- What has become of the sailing found since stage 1 (R31). -/
inductive SailingChange | unchanged | left | closed
  deriving DecidableEq, Repr

/-- Boarded plus held, and the capacity, as stage 5 kept them (R36). -/
structure Occupancy where
  occupied : Nat
  capacity : Nat
  deriving DecidableEq, Repr

/-- The decision in progress: whose it is, the step it has come to, and the working items of R31. `crew` is set by a
PRIORITY action (R34), `refusal` by the first stage that fails. -/
structure Decision where
  gate : Gate
  tap : TapNumber
  stage : Stage
  bank : BankName
  time : ServiceTime
  found : Option SailingFound
  change : SailingChange
  occupancy : Option Occupancy
  filterIndex : Option FilterIndex
  crew : Bool
  inspect : Bool
  slot : Option SlotNo
  kind : Option ProductKind
  fareValue : Nat
  credit : Nat
  charged : Nat
  newBalance : Option Int
  refusal : Option Reason
  deriving DecidableEq, Repr

/-! ### Berth Table (R60) -/

/-- The states of a sailing that is not CLOSED (R63). -/
inductive SailingState | boarding | suspended | closing
  deriving DecidableEq, Repr

/-- An open sailing (R60). A CLOSED berth holds none: its absent fields, zero counts and armed alert follow. -/
structure Sailing where
  state : SailingState
  id : SailingId
  line : LineCode
  capacity : Nat
  boarded : Nat
  held : Nat
  crew : Nat
  refused : Nat
  revenue : Nat
  openingTime : ServiceTime
  alertArmed : Bool
  deriving DecidableEq, Repr

/-! ### Record Queue (R131 to R133) -/

/-- The six kinds of tap record (R131). -/
inductive TapKind | boarded | notBoarded | writeFailed | timedOut | voided | refused
  deriving DecidableEq, Repr

/-- The fields of a tap record (R132). -/
structure TapRecord where
  kind : TapKind
  gate : Gate
  berth : Option BerthNo
  sailing : Option SailingId
  tap : TapNumber
  media : Media
  product : Byte
  concession : Byte
  filterIndex : Option FilterIndex
  reason : Option Reason
  crew : Bool
  inspect : Bool
  bank : BankName
  fareValue : Nat
  credit : Nat
  charged : Nat
  newBalance : Option Int
  verdictTime : ServiceTime
  resolutionTime : ServiceTime
  deriving DecidableEq, Repr

/-- The fields of a SAILING_SUMMARY record (R77, R133). -/
structure SummaryRecord where
  sailing : SailingId
  berth : BerthNo
  line : LineCode
  capacity : Nat
  boarded : Nat
  crew : Nat
  refused : Nat
  revenue : Nat
  openingTime : ServiceTime
  closingTime : ServiceTime
  deriving DecidableEq, Repr

/-- What a record holds beside its number. -/
inductive RecordBody
  | tap (r : TapRecord)
  | summary (r : SummaryRecord)
  deriving DecidableEq, Repr

/-- One entry of the record queue (R130). -/
structure Record where
  seq : SeqNumber
  body : RecordBody
  deriving DecidableEq, Repr

/-! ### Pass Slot Table (R104) -/

/-- A filled pass slot (R104); an empty slot is no value at all. -/
structure PassSlot where
  media : Media
  limit : Nat
  uses : Nat
  inFlight : Bool
  lastUse : Option ServiceTime
  deriving DecidableEq, Repr

/-! ### Service Control (R157, R161, R165, R168) -/

/-- Service state (R157). -/
inductive ServiceState | config | inService | muster
  deriving DecidableEq, Repr

/-- The six service parameters (R161). -/
structure Params where
  passageWindow : Nat
  tapWait : Nat
  overdraft : Nat
  defaultAction : DefaultAction
  highMark : Nat
  passback : Nat
  deriving DecidableEq, Repr

/-- The defaults of R161. -/
def Params.default : Params where
  passageWindow := 80
  tapWait := 30
  overdraft := 0
  defaultAction := .accept
  highMark := 224
  passback := 300

/-- The three alert mask flags; true is masked (R168). -/
structure AlertMasks where
  capacityReached : Bool
  queueHigh : Bool
  priorityMatch : Bool
  deriving DecidableEq, Repr

/-- The kinds of reset (R165). -/
inductive ResetKind | power | line | command
  deriving DecidableEq, Repr

/-- Whether the part takes events (R165, R166). -/
inductive Phase
  /-- Out of reset: the blocks take events. -/
  | running
  /-- A RESET command has been taken and the COMMAND reset has not begun (R166). -/
  | resetTaken
  /-- In a COMMAND reset that began at this tenth of the time base. -/
  | commandReset (begunAt : Nat)
  /-- In a POWER reset; whether the power-up has completed. -/
  | powerReset (complete : Bool)
  /-- In a LINE reset. -/
  | lineReset
  deriving DecidableEq, Repr

/-! ### Uplink Port (R169 to R175) -/

/-- A MGMT frame that has passed the arrival checks: command code, tag and arguments (R169, R185). -/
structure MgmtFrame where
  code : Byte
  tag : Byte
  args : List Byte
  deriving DecidableEq, Repr

/-- The results of a REPLY, in the order of their codes from 0 (R171, R183). -/
inductive ReplyResult
  | ok | clamped | lineHeld | badState | badIndex | badValue | alreadySet | bankMismatch | busy | slotBusy
  | queueFull | badSeq | unknownCommand | malformed
  deriving DecidableEq, Repr

/-- The item a START_SERVICE refusal names, in the order of their codes from 1 (R158, R186). -/
inductive MissingItem | clockUnset | limitsUnset | noActiveBank
  deriving DecidableEq, Repr

/-- The PART section of STATUS (R176). -/
structure PartSection where
  service : ServiceState
  lineRequest : Bool
  commandRequest : Bool
  resetCause : ResetKind
  clock : Option ServiceTime
  ceilings : Option (Vector Nat 4)
  activeBank : Option BankName
  countA : Nat
  countB : Nat
  waiting : Option BankName
  written : Nat
  reserved : Nat
  nextSeq : SeqNumber
  lastPriority : Option PriorityMatch
  deriving DecidableEq, Repr

/-- The state of a transaction as STATUS names it (R177). -/
inductive TxStateName | pending | deciding | awaitingPassage
  deriving DecidableEq, Repr

/-- One gate of the GATES section (R177). -/
structure GateReport where
  state : GateState
  transactions : List TxStateName
  badFrames : Nat
  strays : Nat
  deriving DecidableEq, Repr

/-- The reply data of a REPLY, by command and result (R186). -/
inductive ReplyData
  | nothing
  | params (p : Params)
  | masks (m : AlertMasks)
  | count (n : Nat)
  | bank (b : BankName)
  | entry (e : Option TableEntry)
  | capacity (n : Nat)
  | sailingState (s : Option SailingState)
  | service (s : ServiceState)
  | missing (m : MissingItem)
  | stillOpen (berths gates : Nat)
  | sent (n : Nat)
  | acked (removed left : Nat)
  | oldest (seq : Option SeqNumber)
  | part (r : PartSection)
  | gates (r : List GateReport)
  | berths (r : List (Option Sailing))
  deriving DecidableEq, Repr

/-- The alerts and their fields (R174). -/
inductive Alert
  | capacityReached (berth : BerthNo) (sailing : SailingId) (capacity boarded held : Nat)
  | queueHigh (written reserved : Nat) (oldest : Option SeqNumber)
  | priorityMatch (m : PriorityMatch)
  deriving DecidableEq, Repr

/-- A frame produced for the station computer (R173). A REPLY carries code and tag as its command did. -/
inductive UplinkFrame
  | reply (code tag : Byte) (result : ReplyResult) (data : ReplyData)
  | record (r : Record)
  | alert (a : Alert)
  deriving DecidableEq, Repr

/-! ### The whole part -/

/-- The state of the part. -/
structure State where
  /-- The commands that wait, first in, first out (the model's own). -/
  pending : List Instr
  /-- Gate contexts (R1). -/
  gates : Vector GateContext 16
  /-- Receivers of the gate lanes (R181). -/
  laneRx : Vector Receiver 16
  /-- Frames produced on each lane and not yet sent, oldest first (R8). -/
  laneOut : Vector (List GateFrame) 16
  /-- Bytes of the frame last sent on each LANE_TX pin (12.6; log 16). -/
  laneTx : Vector (List Byte) 16
  /-- Last-granted gate (R27). -/
  lastGranted : Gate
  /-- The decision in progress; the engine busy flag is set when there is one (R27). -/
  engine : Option Decision
  /-- Filter entries; a disabled one is `none` (R45). -/
  filters : Vector (Option FilterRule) 128
  /-- Last priority match record (R57). -/
  lastPriority : Option PriorityMatch
  /-- LOAD_FILTER writes waiting on the running search, in the order taken (R54). -/
  waitingWrites : List FilterWrite
  /-- Fare table bank A (R117). -/
  bankA : Bank
  /-- Fare table bank B (R117). -/
  bankB : Bank
  /-- Active-bank marker; NONE is `none` (R117). -/
  activeBank : Option BankName
  /-- Waiting activation (R126). -/
  waitingActivation : Option WaitingActivation
  /-- Pass slots; an empty one is `none` (R104). -/
  slots : Vector (Option PassSlot) 64
  /-- Berth ceilings, set and unset together (R61). -/
  ceilings : Option (Vector Nat 4)
  /-- Sailing records; a CLOSED berth is `none` (R60). -/
  sailings : Vector (Option Sailing) 4
  /-- Written records, oldest first (R130). -/
  written : List Record
  /-- Reserved slots of the record queue (R130). -/
  reserved : Nat
  /-- Next sequence number (R134). -/
  nextSeq : SeqNumber
  /-- Queue high alert armed (R142). -/
  queueHighArmed : Bool
  /-- Service state (R157). -/
  service : ServiceState
  /-- The MUSTER line, which is the line request (R146). -/
  musterLine : Bool
  /-- The command muster request (R146). -/
  commandRequest : Bool
  /-- Service parameters (R161). -/
  params : Params
  /-- Service clock; unset is `none` (R163). -/
  clock : Option ServiceTime
  /-- Tenths counted towards the clock's next second (R163, R164). -/
  tenths : Nat
  /-- Tenths of a second counted by the time base (R163). -/
  timeBase : Nat
  /-- Alert masks (R168). -/
  masks : AlertMasks
  /-- Reset cause (R167). -/
  resetCause : ResetKind
  /-- Whether the part is in reset, or about to be (R165, R166). -/
  phase : Phase
  /-- The RESET line (R165). -/
  resetLine : Bool
  /-- Receiver of the uplink (R181). -/
  uplinkRx : Receiver
  /-- Receive list (R170). -/
  receiveList : List MgmtFrame
  /-- Outgoing list (R173). -/
  outgoing : List UplinkFrame
  /-- Bytes of the frame last sent on UP_TX (12.6; log 16). -/
  uplinkTx : List Byte
  /-- How many free values have been used (the model's own; log 7). -/
  freeCount : Nat
  deriving DecidableEq, Repr

/-- A gate context as a POWER reset leaves it, its GATE_MODE CLOSED produced (R26, R7). -/
def GateContext.reset : GateContext where
  config := GateSettings.default
  state := .disabled
  list := []
  modeSent := some .closed
  badFrames := 0
  strays := 0

/-- The part right after it has come out of a POWER reset with both lines released (R165): every lane has just been
given GATE_MODE CLOSED to send (R7). DESIGN CHOICE (log 5), unsafe: `timeBase`, `tenths`, the two pins, the bytes last
sent and `freeCount`, for which the manual gives no value. -/
def State.reset : State where
  pending := []
  gates := Vector.replicate 16 GateContext.reset
  laneRx := Vector.replicate 16 .hunting
  laneOut := Vector.replicate 16 [.gateMode .closed]
  laneTx := Vector.replicate 16 []
  lastGranted := 15
  engine := none
  filters := Vector.replicate 128 none
  lastPriority := none
  waitingWrites := []
  bankA := Bank.empty
  bankB := Bank.empty
  activeBank := none
  waitingActivation := none
  slots := Vector.replicate 64 none
  ceilings := none
  sailings := Vector.replicate 4 none
  written := []
  reserved := 0
  nextSeq := 0
  queueHighArmed := true
  service := .config
  musterLine := false
  commandRequest := false
  params := Params.default
  clock := none
  tenths := 0
  timeBase := 0
  masks := ⟨false, false, false⟩
  resetCause := .power
  phase := .running
  resetLine := false
  uplinkRx := .hunting
  receiveList := []
  outgoing := []
  uplinkTx := []
  freeCount := 0

end Sys2Proof.Machine
end

