-- ==== Sys2Proof/Machine/Frames.lean ====
section
/-! DEFINITION. The envelope, its check word and receiver, and the layouts of the frames (chapter 12). -/
namespace Sys2Proof.Machine

/-! ### Envelope and check word (R180, R181) -/

/-- One bit into the check register: generator x^16 + x^12 + x^5 + 1 (R181). -/
def crcBit (r : BitVec 16) (bit : Bool) : BitVec 16 :=
  if r.msb ^^ bit then (r <<< 1) ^^^ 0x1021#16 else r <<< 1

/-- One byte into the check register, most significant bit first (R181). -/
def crcByte (r : BitVec 16) (b : Byte) : BitVec 16 :=
  [7, 6, 5, 4, 3, 2, 1, 0].foldl (fun r i => crcBit r (b.getLsbD i)) r

/-- The check word over class, length and payload; the register starts at 0xFFFF (R181). -/
def checkWord (bs : List Byte) : BitVec 16 :=
  bs.foldl crcByte 0xFFFF#16

/-- The start mark (R180). -/
def startMark : Byte := 0xA5

/-- Class codes (R182). -/
def classTap : Byte := 0x10
/-- Class code of PASSAGE (R182). -/
def classPassage : Byte := 0x11
/-- Class code of VERDICT (R182). -/
def classVerdict : Byte := 0x20
/-- Class code of GATE_MODE (R182). -/
def classGateMode : Byte := 0x21
/-- Class code of MGMT (R182). -/
def classMgmt : Byte := 0x40
/-- Class code of REPLY (R182). -/
def classReply : Byte := 0x50
/-- Class code of RECORD (R182). -/
def classRecord : Byte := 0x51
/-- Class code of ALERT (R182). -/
def classAlert : Byte := 0x52

/-- Class, length and payload: what the check word is computed over (R181). -/
def checkedBytes (cls : Byte) (payload : List Byte) : List Byte :=
  cls :: BitVec.ofNat 8 payload.length :: payload

/-- A whole frame in its envelope (R180). -/
def frameBytes (cls : Byte) (payload : List Byte) : List Byte :=
  startMark :: checkedBytes cls payload ++ beBytes 2 (checkWord (checkedBytes cls payload)).toNat

/-! ### The receiver (R181) -/

/-- What a receiver hands on: a frame ended by a length above 120, or a frame taken whole. -/
inductive RxEvent
  | overlong
  | frame (cls : Byte) (payload : List Byte) (check : BitVec 16)
  deriving DecidableEq, Repr

/-- One byte into a receiver (R181). -/
def Receiver.step : Receiver → Byte → Receiver × Option RxEvent
  | .hunting, b => if b = startMark then (.reading [], none) else (.hunting, none)
  | .reading got, b =>
    let got := got ++ [b]
    if got.length < 2 then (.reading got, none)
    else
      let len := fieldNat got 1 1
      if Config.maxPayload < len then (.hunting, some .overlong)
      else if got.length < len + 4 then (.reading got, none)
      else (.hunting, some (.frame (fieldByte got 0) ((got.drop 2).take len) (field16 got (len + 2))))

/-- Bytes into a receiver, one after another; the frames they end, in order (R181). -/
def Receiver.run : Receiver → List Byte → Receiver × List RxEvent
  | r, [] => (r, [])
  | r, b :: bs =>
    let (r', ev) := r.step b
    let (r'', evs) := Receiver.run r' bs
    (r'', ev.toList ++ evs)

/-! ### Frames a gate lane takes (R24, R182, R184) -/

/-- The fields of a TAP frame (R184). -/
structure TapFrame where
  tap : TapNumber
  card : CardData
  deriving DecidableEq, Repr

/-- The TAP payload read (R184); a group whose presence bit is clear is kept absent (R183). -/
def parseTap (p : List Byte) : TapFrame where
  tap := field16 p 0
  card :=
    { media := field48 p 2
      issuer := fieldByte p 8
      product := fieldByte p 9
      concession := fieldByte p 10
      balance := field32 p 11
      lastBoarding :=
        if (fieldByte p 15).getLsbD 0 then
          some { line := fieldByte p 16, day := field16 p 17, second := field24 p 19, farePaid := field16 p 22 }
        else none
      passExpiry := if (fieldByte p 15).getLsbD 1 then some (field16 p 24) else none }

/-- The TAP payload written (R184). -/
def tapPayload (t : TapFrame) : List Byte :=
  let lb := t.card.lastBoarding.getD ⟨0, 0, 0, 0⟩
  beBytes 2 t.tap.toNat ++ beBytes 6 t.card.media.toNat ++ [t.card.issuer, t.card.product, t.card.concession]
    ++ beBytes 4 t.card.balance.toNat ++ [flagByte [t.card.lastBoarding.isSome, t.card.passExpiry.isSome]]
    ++ [lb.line] ++ beBytes 2 lb.day.toNat ++ beBytes 3 lb.second.toNat ++ beBytes 2 lb.farePaid.toNat
    ++ beBytes 2 (t.card.passExpiry.getD 0).toNat

/-- The results of a PASSAGE report; any other code is unknown (R18, R183). -/
inductive PassageResult | passed | turnedBack | writeFailed | unknown
  deriving DecidableEq, Repr

/-- The PASSAGE result codes (R183). -/
def passageResult (code : Byte) : PassageResult :=
  if code = 1 then .passed else if code = 2 then .turnedBack else if code = 3 then .writeFailed else .unknown

/-- What a gate lane makes of a frame that arrives on it: a bad frame, a TAP or a PASSAGE (R24). -/
inductive LaneFrame
  | bad
  | tap (t : TapFrame)
  | passage (tap : TapNumber) (result : PassageResult)
  deriving DecidableEq, Repr

/-- The frame checks of a gate lane: check word, fixed length of the class, class (R24, R182). -/
def laneFrame : RxEvent → LaneFrame
  | .overlong => .bad
  | .frame cls payload check =>
    if check ≠ checkWord (checkedBytes cls payload) then .bad
    else if cls = classTap then
      if payload.length = 26 then .tap (parseTap payload) else .bad
    else if cls = classPassage then
      if payload.length = 3 then .passage (field16 payload 0) (passageResult (fieldByte payload 2)) else .bad
    else .bad

/-! ### Frames the uplink takes (R169, R185) -/

/-- The arrival checks of the uplink: the MGMT frame, or nothing when the frame is discarded silently (R169). -/
def uplinkFrame : RxEvent → Option MgmtFrame
  | .overlong => none
  | .frame cls payload check =>
    if check ≠ checkWord (checkedBytes cls payload) then none
    else if cls ≠ classMgmt then none
    else match payload with
      | code :: tag :: args => some ⟨code, tag, args⟩
      | _ => none

/-- A MGMT frame as the station computer sends it (R180, R185). -/
def mgmtBytes (f : MgmtFrame) : List Byte :=
  frameBytes classMgmt (f.code :: f.tag :: f.args)

/-! ### Frames a gate lane sends (R184) -/

/-- Outcome codes (R183). -/
def outcomeCode : VerdictOutcome → Byte
  | .opened => 1
  | .openInspect => 2
  | .openCrew => 3
  | .refuse => 4
  | .notInService => 5
  | .muster => 6
  | .gateClosed => 7
  | .busy => 8
  | .retry => 9

/-- Refusal reason codes; 0 is none (R183). -/
def reasonCode : Option Reason → Byte
  | none => 0
  | some .noSailing => 1
  | some .departing => 2
  | some .cardData => 3
  | some .listed => 4
  | some .noProduct => 5
  | some .noFare => 6
  | some .full => 7
  | some .expired => 8
  | some .lineNotCovered => 9
  | some .slotMismatch => 10
  | some .passback => 11
  | some .passUsedUp => 12
  | some .lowBalance => 13

/-- GATE_MODE codes (R183). -/
def gateModeCode : GateMode → Byte
  | .normal => 1
  | .closed => 2
  | .freeEgress => 3

/-- The payload of a frame the part sends on a gate lane (R184). -/
def gatePayload : GateFrame → List Byte
  | .verdict tap outcome reason charged newBalance inspect =>
    beBytes 2 tap.toNat ++ [outcomeCode outcome, reasonCode reason] ++ beBytes 2 charged
      ++ signedBytes (newBalance.getD 0) ++ [flagByte [inspect, newBalance.isSome]]
  | .gateMode mode => [gateModeCode mode]

/-- The class of a frame the part sends on a gate lane (R182). -/
def gateClass : GateFrame → Byte
  | .verdict .. => classVerdict
  | .gateMode _ => classGateMode

/-- A gate-lane frame as it is sent (R180, R184). -/
def gateFrameBytes (f : GateFrame) : List Byte :=
  frameBytes (gateClass f) (gatePayload f)

/-! ### Frames the uplink sends (R186, R187) -/

/-- A service time in five bytes, day then second (R183). -/
def timeBytes (t : ServiceTime) : List Byte :=
  beBytes 2 t.day ++ beBytes 3 t.second

/-- An optional service time; absent is sent as 0 (R183). -/
def optTimeBytes (t : Option ServiceTime) : List Byte :=
  timeBytes (t.getD ⟨0, 0⟩)

/-- Berth in one byte, NONE is 255 (R183). -/
def berthByte : Option BerthNo → Byte
  | none => 255
  | some b => BitVec.ofNat 8 b.val

/-- Bank code: A 0, B 1 (R183). -/
def bankByte : BankName → Byte
  | .bankA => 0
  | .bankB => 1

/-- Active or waiting bank code: NONE, or none waiting, is 2 (R186). -/
def optBankByte : Option BankName → Byte
  | none => 2
  | some b => bankByte b

/-- Service state codes (R186). -/
def serviceByte : ServiceState → Byte
  | .config => 0
  | .inService => 1
  | .muster => 2

/-- Sailing state codes; a CLOSED berth has none open (R186). -/
def sailingStateByte : Option SailingState → Byte
  | none => 0
  | some .boarding => 1
  | some .suspended => 2
  | some .closing => 3

/-- Gate state codes (R186). -/
def gateStateByte : GateState → Byte
  | .disabled => 0
  | .draining => 1
  | .active => 2

/-- Transaction state codes (R186). -/
def txStateByte : TxStateName → Byte
  | .pending => 0
  | .deciding => 1
  | .awaitingPassage => 2

/-- Reset cause codes (R186). -/
def resetByte : ResetKind → Byte
  | .power => 0
  | .line => 1
  | .command => 2

/-- Missing item codes (R186). -/
def missingByte : MissingItem → Byte
  | .clockUnset => 1
  | .limitsUnset => 2
  | .noActiveBank => 3

/-- REPLY result codes (R183). -/
def resultByte : ReplyResult → Byte
  | .ok => 0
  | .clamped => 1
  | .lineHeld => 2
  | .badState => 3
  | .badIndex => 4
  | .badValue => 5
  | .alreadySet => 6
  | .bankMismatch => 7
  | .busy => 8
  | .slotBusy => 9
  | .queueFull => 10
  | .badSeq => 11
  | .unknownCommand => 12
  | .malformed => 13

/-- Default action codes (R183). -/
def defaultActionByte : DefaultAction → Byte
  | .accept => 0
  | .refuse => 1

/-- Product kind codes (R183). -/
def productKindByte : ProductKind → Byte
  | .storedValue => 0
  | .periodPass => 1
  | .cappedPass => 2

/-- Six parameter values in the order and sizes of SET_PARAMETERS (R186). -/
def paramsBytes (p : Params) : List Byte :=
  beBytes 2 p.passageWindow ++ beBytes 2 p.tapWait ++ beBytes 2 p.overdraft ++ [defaultActionByte p.defaultAction]
    ++ beBytes 2 p.highMark ++ beBytes 2 p.passback

/-- A curve point in six bytes (R185). -/
def pointBytes (p : CurvePoint) : List Byte :=
  beBytes 2 p.source ++ beBytes 2 p.value ++ beBytes 2 p.slope

/-- A table entry in the form of LOAD_FARE's contents (R185). -/
def entryBytes : TableEntry → List Byte
  | .product e => [productKindByte e.kind] ++ beBytes 4 e.lines.toNat
  | .band e => beBytes 2 e.base ++ beBytes 2 e.floor ++ beBytes 2 e.ceiling
      ++ beBytes 1 e.curve.val ++ beBytes 1 e.window ++ beBytes 2 e.cap
  | .curve e => beBytes 2 e.value0 ++ beBytes 2 e.slope0 ++ pointBytes e.point1 ++ pointBytes e.point2
      ++ pointBytes e.point3
  | .concession factor => beBytes 2 factor

/-- A priority match: gate, filter index, media number, match time; absent is sent as 0 (R186). -/
def priorityBytes : Option PriorityMatch → List Byte
  | none => beBytes 13 0
  | some m => beBytes 1 m.gate.val ++ beBytes 1 m.index.val ++ beBytes 6 m.media.toNat ++ timeBytes m.time

/-- The PART section from its section byte (R186). -/
def partBytes (r : PartSection) : List Byte :=
  [1, serviceByte r.service, flagByte [r.lineRequest, r.commandRequest], resetByte r.resetCause,
    flagByte [r.clock.isSome, r.ceilings.isSome, r.lastPriority.isSome]]
    ++ optTimeBytes r.clock
    ++ ((r.ceilings.getD (Vector.replicate 4 0)).toList.map (beBytes 2)).flatten
    ++ [optBankByte r.activeBank] ++ beBytes 1 r.countA ++ beBytes 1 r.countB ++ [optBankByte r.waiting]
    ++ beBytes 2 r.written ++ beBytes 2 r.reserved ++ beBytes 2 r.nextSeq.toNat ++ priorityBytes r.lastPriority

/-- Six bytes of one gate of the GATES section; a place beyond the count is sent as 0 (R186). -/
def gateReportBytes (r : GateReport) : List Byte :=
  [gateStateByte r.state] ++ beBytes 1 r.transactions.length
    ++ [(r.transactions[0]?.map txStateByte).getD 0, (r.transactions[1]?.map txStateByte).getD 0]
    ++ beBytes 1 r.badFrames ++ beBytes 1 r.strays

/-- Twenty-two bytes of one berth of the BERTHS section; a CLOSED berth sends 0 throughout (R186). -/
def berthReportBytes : Option Sailing → List Byte
  | none => beBytes 22 0
  | some sl => [sailingStateByte (some sl.state)] ++ beBytes 2 sl.id.toNat ++ beBytes 1 sl.line.val
      ++ beBytes 2 sl.capacity ++ beBytes 2 sl.boarded ++ beBytes 2 sl.held ++ beBytes 1 sl.crew
      ++ beBytes 2 sl.refused ++ beBytes 4 sl.revenue ++ timeBytes sl.openingTime

/-- The reply data from offset 3 (R186). -/
def replyDataBytes : ReplyData → List Byte
  | .nothing => []
  | .params p => paramsBytes p
  | .masks m => [boolByte m.capacityReached, boolByte m.queueHigh, boolByte m.priorityMatch]
  | .count n => beBytes 1 n
  | .bank b => [bankByte b]
  | .entry none => [0]
  | .entry (some e) => 1 :: entryBytes e
  | .capacity n => beBytes 2 n
  | .sailingState s => [sailingStateByte s]
  | .service s => [serviceByte s]
  | .missing m => [missingByte m]
  | .stillOpen berths gates => beBytes 1 berths ++ beBytes 1 gates
  | .sent n => beBytes 1 n
  | .acked removed left => beBytes 2 removed ++ beBytes 2 left
  | .oldest seq => [flagByte [seq.isSome]] ++ beBytes 2 (seq.getD 0).toNat
  | .part r => partBytes r
  | .gates r => 2 :: (r.map gateReportBytes).flatten
  | .berths r => 3 :: (r.map berthReportBytes).flatten

/-- Record kind codes of the tap kinds (R183); SAILING_SUMMARY is 7. -/
def tapKindByte : TapKind → Byte
  | .boarded => 1
  | .notBoarded => 2
  | .writeFailed => 3
  | .timedOut => 4
  | .voided => 5
  | .refused => 6

/-- The RECORD payload (R187). -/
def recordPayload (r : Record) : List Byte :=
  beBytes 2 r.seq.toNat ++ match r.body with
    | .tap t =>
      [tapKindByte t.kind] ++ beBytes 1 t.gate.val ++ [berthByte t.berth] ++ beBytes 2 (t.sailing.getD 0).toNat
        ++ beBytes 2 t.tap.toNat ++ beBytes 6 t.media.toNat ++ [t.product, t.concession]
        ++ beBytes 1 ((t.filterIndex.map Fin.val).getD 0) ++ [reasonCode t.reason]
        ++ [flagByte [t.crew, t.inspect, t.sailing.isSome, t.filterIndex.isSome, t.newBalance.isSome]]
        ++ [bankByte t.bank] ++ beBytes 2 t.fareValue ++ beBytes 2 t.credit ++ beBytes 2 t.charged
        ++ signedBytes (t.newBalance.getD 0) ++ timeBytes t.verdictTime ++ timeBytes t.resolutionTime
    | .summary m =>
      [7] ++ beBytes 2 m.sailing.toNat ++ beBytes 1 m.berth.val ++ beBytes 1 m.line.val ++ beBytes 2 m.capacity
        ++ beBytes 2 m.boarded ++ beBytes 1 m.crew ++ beBytes 2 m.refused ++ beBytes 4 m.revenue
        ++ timeBytes m.openingTime ++ timeBytes m.closingTime

/-- The ALERT payload (R186). -/
def alertPayload : Alert → List Byte
  | .capacityReached berth sailing capacity boarded held =>
    [1] ++ beBytes 1 berth.val ++ beBytes 2 sailing.toNat ++ beBytes 2 capacity ++ beBytes 2 boarded ++ beBytes 2 held
  | .queueHigh written reserved oldest =>
    [2] ++ beBytes 2 written ++ beBytes 2 reserved ++ [flagByte [oldest.isSome]] ++ beBytes 2 (oldest.getD 0).toNat
  | .priorityMatch m => [3] ++ priorityBytes (some m)

/-- The payload of a frame for the station computer (R186, R187). -/
def uplinkPayload : UplinkFrame → List Byte
  | .reply code tag result data => [code, tag, resultByte result] ++ replyDataBytes data
  | .record r => recordPayload r
  | .alert a => alertPayload a

/-- The class of a frame for the station computer (R182). -/
def uplinkClass : UplinkFrame → Byte
  | .reply .. => classReply
  | .record _ => classRecord
  | .alert _ => classAlert

/-- A frame for the station computer as it is sent (R180). -/
def uplinkFrameBytes (f : UplinkFrame) : List Byte :=
  frameBytes (uplinkClass f) (uplinkPayload f)

end Sys2Proof.Machine
end

