-- ==== Sys2Proof/Machine/Operands.lean ====
section
/-! DEFINITION. The arguments of the management commands: their layout (R185) and the values their codes name (R183).
A parser answers `none` where the payload length is not one the command takes (R169). -/
namespace Sys2Proof.Machine

/-! ### Command codes (R185) -/

/-- The twenty-two commands (11.2). -/
inductive Command
  | setTime | setLimits | setParameters | setAlertMask | gateConfig | loadFilter | loadFare | clearBank
  | activateBank | readEntry | loadSlot | clearSlot | openSailing | depart | musterStart | musterEnd
  | startService | stopService | fetchRecords | ackRecords | status | reset
  deriving DecidableEq, Repr

/-- Command codes (R185). -/
def Command.code : Command → Byte
  | .setTime => 0x01
  | .setLimits => 0x02
  | .setParameters => 0x03
  | .setAlertMask => 0x04
  | .gateConfig => 0x05
  | .loadFilter => 0x06
  | .loadFare => 0x07
  | .clearBank => 0x08
  | .activateBank => 0x09
  | .readEntry => 0x0A
  | .loadSlot => 0x0B
  | .clearSlot => 0x0C
  | .openSailing => 0x0D
  | .depart => 0x0E
  | .musterStart => 0x0F
  | .musterEnd => 0x10
  | .startService => 0x11
  | .stopService => 0x12
  | .fetchRecords => 0x13
  | .ackRecords => 0x14
  | .status => 0x15
  | .reset => 0x16

/-- The codes run from 0x01 to 0x16; every other code names no command (R169, R185). -/
def knownCode (code : Byte) : Bool :=
  decide (1 ≤ code.toNat ∧ code.toNat ≤ 0x16)

/-! ### Argument layouts (R185) -/

/-- SET_TIME: day 2, second 3. -/
structure SetTimeArgs where
  day : BitVec 16
  second : BitVec 24
  deriving DecidableEq, Repr

/-- SET_TIME read. -/
def parseSetTime (bs : List Byte) : Option SetTimeArgs :=
  if bs.length = 5 then some ⟨field16 bs 0, field24 bs 2⟩ else none

/-- SET_TIME written. -/
def SetTimeArgs.bytes (a : SetTimeArgs) : List Byte :=
  beBytes 2 a.day.toNat ++ beBytes 3 a.second.toNat

/-- SET_LIMITS: four ceilings, 2 each, in berth order. -/
structure SetLimitsArgs where
  berth0 : BitVec 16
  berth1 : BitVec 16
  berth2 : BitVec 16
  berth3 : BitVec 16
  deriving DecidableEq, Repr

/-- SET_LIMITS read. -/
def parseSetLimits (bs : List Byte) : Option SetLimitsArgs :=
  if bs.length = 8 then some ⟨field16 bs 0, field16 bs 2, field16 bs 4, field16 bs 6⟩ else none

/-- SET_LIMITS written. -/
def SetLimitsArgs.bytes (a : SetLimitsArgs) : List Byte :=
  beBytes 2 a.berth0.toNat ++ beBytes 2 a.berth1.toNat ++ beBytes 2 a.berth2.toNat ++ beBytes 2 a.berth3.toNat

/-- SET_PARAMETERS: passage window 2, tap wait 2, overdraft 2, default action 1, high mark 2, passback 2. -/
structure SetParametersArgs where
  passageWindow : BitVec 16
  tapWait : BitVec 16
  overdraft : BitVec 16
  defaultAction : Byte
  highMark : BitVec 16
  passback : BitVec 16
  deriving DecidableEq, Repr

/-- SET_PARAMETERS read. -/
def parseSetParameters (bs : List Byte) : Option SetParametersArgs :=
  if bs.length = 11 then
    some ⟨field16 bs 0, field16 bs 2, field16 bs 4, fieldByte bs 6, field16 bs 7, field16 bs 9⟩
  else none

/-- SET_PARAMETERS written. -/
def SetParametersArgs.bytes (a : SetParametersArgs) : List Byte :=
  beBytes 2 a.passageWindow.toNat ++ beBytes 2 a.tapWait.toNat ++ beBytes 2 a.overdraft.toNat ++ [a.defaultAction]
    ++ beBytes 2 a.highMark.toNat ++ beBytes 2 a.passback.toNat

/-- SET_ALERT_MASK: CAPACITY_REACHED 1, QUEUE_HIGH 1, PRIORITY_MATCH 1. -/
structure SetAlertMaskArgs where
  capacityReached : Byte
  queueHigh : Byte
  priorityMatch : Byte
  deriving DecidableEq, Repr

/-- SET_ALERT_MASK read. -/
def parseSetAlertMask (bs : List Byte) : Option SetAlertMaskArgs :=
  if bs.length = 3 then some ⟨fieldByte bs 0, fieldByte bs 1, fieldByte bs 2⟩ else none

/-- SET_ALERT_MASK written. -/
def SetAlertMaskArgs.bytes (a : SetAlertMaskArgs) : List Byte :=
  [a.capacityReached, a.queueHigh, a.priorityMatch]

/-- GATE_CONFIG: gate, enabled, berth, priority, counting mode, lane kind, 1 each. -/
structure GateConfigArgs where
  gate : Byte
  enabled : Byte
  berth : Byte
  priority : Byte
  counting : Byte
  lane : Byte
  deriving DecidableEq, Repr

/-- GATE_CONFIG read. -/
def parseGateConfig (bs : List Byte) : Option GateConfigArgs :=
  if bs.length = 6 then
    some ⟨fieldByte bs 0, fieldByte bs 1, fieldByte bs 2, fieldByte bs 3, fieldByte bs 4, fieldByte bs 5⟩
  else none

/-- GATE_CONFIG written. -/
def GateConfigArgs.bytes (a : GateConfigArgs) : List Byte :=
  [a.gate, a.enabled, a.berth, a.priority, a.counting, a.lane]

/-- LOAD_FILTER: index 1, action 1, kind 1, first number 6, second number 6, issuer 1, slot index 1. -/
structure LoadFilterArgs where
  index : Byte
  action : Byte
  kind : Byte
  first : Media
  second : Media
  issuer : Byte
  slot : Byte
  deriving DecidableEq, Repr

/-- LOAD_FILTER read. -/
def parseLoadFilter (bs : List Byte) : Option LoadFilterArgs :=
  if bs.length = 17 then
    some ⟨fieldByte bs 0, fieldByte bs 1, fieldByte bs 2, field48 bs 3, field48 bs 9, fieldByte bs 15, fieldByte bs 16⟩
  else none

/-- LOAD_FILTER written. -/
def LoadFilterArgs.bytes (a : LoadFilterArgs) : List Byte :=
  [a.index, a.action, a.kind] ++ beBytes 6 a.first.toNat ++ beBytes 6 a.second.toNat ++ [a.issuer, a.slot]

/-- LOAD_FARE: bank 1, table 1, index 1, contents 22. -/
structure LoadFareArgs where
  bank : Byte
  table : Byte
  index : Byte
  contents : List Byte
  deriving DecidableEq, Repr

/-- LOAD_FARE read. -/
def parseLoadFare (bs : List Byte) : Option LoadFareArgs :=
  if bs.length = 25 then some ⟨fieldByte bs 0, fieldByte bs 1, fieldByte bs 2, bs.drop 3⟩ else none

/-- LOAD_FARE written. -/
def LoadFareArgs.bytes (a : LoadFareArgs) : List Byte :=
  [a.bank, a.table, a.index] ++ a.contents

/-- One byte of argument: CLEAR_BANK, CLEAR_SLOT, DEPART, FETCH_RECORDS. -/
def parseOneByte (bs : List Byte) : Option Byte :=
  if bs.length = 1 then some (fieldByte bs 0) else none

/-- ACTIVATE_BANK: bank 1, expected count 1. -/
structure ActivateBankArgs where
  bank : Byte
  expected : Byte
  deriving DecidableEq, Repr

/-- ACTIVATE_BANK read. -/
def parseActivateBank (bs : List Byte) : Option ActivateBankArgs :=
  if bs.length = 2 then some ⟨fieldByte bs 0, fieldByte bs 1⟩ else none

/-- ACTIVATE_BANK written. -/
def ActivateBankArgs.bytes (a : ActivateBankArgs) : List Byte :=
  [a.bank, a.expected]

/-- READ_ENTRY: bank 1, table 1, index 1. -/
structure ReadEntryArgs where
  bank : Byte
  table : Byte
  index : Byte
  deriving DecidableEq, Repr

/-- READ_ENTRY read. -/
def parseReadEntry (bs : List Byte) : Option ReadEntryArgs :=
  if bs.length = 3 then some ⟨fieldByte bs 0, fieldByte bs 1, fieldByte bs 2⟩ else none

/-- READ_ENTRY written. -/
def ReadEntryArgs.bytes (a : ReadEntryArgs) : List Byte :=
  [a.bank, a.table, a.index]

/-- LOAD_SLOT: slot 1, media number 6, daily limit 1. -/
structure LoadSlotArgs where
  slot : Byte
  media : Media
  limit : Byte
  deriving DecidableEq, Repr

/-- LOAD_SLOT read. -/
def parseLoadSlot (bs : List Byte) : Option LoadSlotArgs :=
  if bs.length = 8 then some ⟨fieldByte bs 0, field48 bs 1, fieldByte bs 7⟩ else none

/-- LOAD_SLOT written. -/
def LoadSlotArgs.bytes (a : LoadSlotArgs) : List Byte :=
  [a.slot] ++ beBytes 6 a.media.toNat ++ [a.limit]

/-- OPEN_SAILING: berth 1, sailing id 2, line 1, capacity 2. -/
structure OpenSailingArgs where
  berth : Byte
  sailing : SailingId
  line : Byte
  capacity : BitVec 16
  deriving DecidableEq, Repr

/-- OPEN_SAILING read. -/
def parseOpenSailing (bs : List Byte) : Option OpenSailingArgs :=
  if bs.length = 6 then some ⟨fieldByte bs 0, field16 bs 1, fieldByte bs 3, field16 bs 4⟩ else none

/-- OPEN_SAILING written. -/
def OpenSailingArgs.bytes (a : OpenSailingArgs) : List Byte :=
  [a.berth] ++ beBytes 2 a.sailing.toNat ++ [a.line] ++ beBytes 2 a.capacity.toNat

/-- ACK_RECORDS: sequence number 2. -/
def parseAckRecords (bs : List Byte) : Option SeqNumber :=
  if bs.length = 2 then some (field16 bs 0) else none

/-- No argument: MUSTER_START, MUSTER_END, START_SERVICE, STOP_SERVICE, RESET. -/
def parseNothing (bs : List Byte) : Option Unit :=
  if bs.length = 0 then some () else none

/-- STATUS: no argument, or a gate 1 (R175). -/
def parseStatus (bs : List Byte) : Option (Option Byte) :=
  if bs.length = 0 then some none else if bs.length = 1 then some (some (fieldByte bs 0)) else none

/-! ### Values that codes name (R183) -/

/-- An index below `n`, or nothing. -/
def indexBelow (n : Nat) (b : Byte) : Option (Fin n) :=
  if h : b.toNat < n then some ⟨b.toNat, h⟩ else none

/-- Yes is 1 and no is 0; masked is 1 and unmasked is 0 (R183). -/
def boolOf (b : Byte) : Option Bool :=
  if b = 0 then some false else if b = 1 then some true else none

/-- Bank A is 0 and bank B is 1 (R183). -/
def bankOf (b : Byte) : Option BankName :=
  if b = 0 then some .bankA else if b = 1 then some .bankB else none

/-- Berth 0 to 3, or 255 for NONE (R183). -/
def berthOf (b : Byte) : Option (Option BerthNo) :=
  if b = 255 then some none else (indexBelow 4 b).map some

/-- CONFIRMED 0, DIRECT 1 (R2, R183). -/
def countingOf (b : Byte) : Option Counting :=
  if b = 0 then some .confirmed else if b = 1 then some .direct else none

/-- STANDARD 0, TANDEM 1 (R2, R183). -/
def laneKindOf (b : Byte) : Option LaneKind :=
  if b = 0 then some .standard else if b = 1 then some .tandem else none

/-- ACCEPT 0, REFUSE 1 (R161, R183). -/
def defaultActionOf (b : Byte) : Option DefaultAction :=
  if b = 0 then some .accept else if b = 1 then some .refuse else none

/-- The five settings of a GATE_CONFIG; none when one is outside its values (R3). -/
def gateSettingsOf (a : GateConfigArgs) : Option GateSettings := do
  let enabled ← boolOf a.enabled
  let berth ← berthOf a.berth
  let priority ← indexBelow 4 a.priority
  let counting ← countingOf a.counting
  let lane ← laneKindOf a.lane
  pure ⟨enabled, berth, priority, counting, lane⟩

/-- RANGE 0, PAIR 1, MASKED 2 (R45, R183). -/
def filterKindOf (b : Byte) : Option FilterKind :=
  if b = 0 then some .range else if b = 1 then some .pair else if b = 2 then some .masked else none

/-- ACCEPT 1, INSPECT 2, REFUSE 3, PRIORITY 4, SLOT 5, whose slot index is examined for SLOT alone (R52). -/
def filterActionOf (action slot : Byte) : Option FilterAction :=
  if action = 1 then some .accept
  else if action = 2 then some .inspect
  else if action = 3 then some .refuse
  else if action = 4 then some .priority
  else if action = 5 then (indexBelow 64 slot).map .slot
  else none

/-- Issuer 0 to 254, or 255 for ANY: every code is one of them (R52, R183). -/
def issuerOf (b : Byte) : Option Byte :=
  if b = 255 then none else some b

/-- The two numbers of an entry suit its kind (R52): no 0 in a RANGE or a PAIR, no RANGE turned round. -/
def numbersOk (kind : FilterKind) (first second : Media) : Bool :=
  match kind with
  | .range => decide (first ≠ 0 ∧ second ≠ 0 ∧ first.toNat ≤ second.toNat)
  | .pair => decide (first ≠ 0 ∧ second ≠ 0)
  | .masked => true

/-- The entry a LOAD_FILTER writes: `some none` for DISABLED, `none` when it is refused BAD_VALUE (R52, R53). -/
def filterEntryOf (a : LoadFilterArgs) : Option (Option FilterRule) :=
  if a.action = 0 then some none
  else do
    let kind ← filterKindOf a.kind
    let action ← filterActionOf a.action a.slot
    if numbersOk kind a.first a.second then
      pure (some ⟨action, kind, a.first, a.second, issuerOf a.issuer⟩)
    else none

/-- One entry of a bank's four tables (R117). -/
inductive TableIndex
  | product (i : Fin 64)
  | band (i : Fin 32)
  | curve (i : Fin 4)
  | concession (i : Fin 8)
  deriving DecidableEq, Repr

/-- Product 0, band 1, curve 2, concession 3 (R183), with an index within the table (R120). -/
def tableIndexOf (table index : Byte) : Option TableIndex :=
  if table = 0 then (indexBelow 64 index).map .product
  else if table = 1 then (indexBelow 32 index).map .band
  else if table = 2 then (indexBelow 4 index).map .curve
  else if table = 3 then (indexBelow 8 index).map .concession
  else none

/-- STORED_VALUE 0, PERIOD_PASS 1, CAPPED_PASS 2 (R118, R183). -/
def productKindOf (b : Byte) : Option ProductKind :=
  if b = 0 then some .storedValue else if b = 1 then some .periodPass else if b = 2 then some .cappedPass else none

/-- A curve point from its six bytes, with its ranges (R118, R185). -/
def pointOf (bs : List Byte) (off : Nat) : Option CurvePoint :=
  let p : CurvePoint := ⟨fieldNat bs off 2, fieldNat bs (off + 2) 2, fieldNat bs (off + 4) 2⟩
  if p.source ≤ 256 ∧ p.value ≤ 511 ∧ p.slope ≤ 2047 then some p else none

/-- The entry that LOAD_FARE's contents spell for a table, or nothing when it is refused BAD_VALUE (R120, R185). -/
def entryOf (t : TableIndex) (bs : List Byte) : Option TableEntry :=
  match t with
  | .product _ => (productKindOf (fieldByte bs 0)).map fun kind => .product ⟨kind, field32 bs 1⟩
  | .band _ => do
    let curve ← indexBelow 4 (fieldByte bs 6)
    let e : BandEntry :=
      ⟨fieldNat bs 0 2, fieldNat bs 2 2, fieldNat bs 4 2, curve, fieldNat bs 7 1, fieldNat bs 8 2⟩
    if e.base ≤ 9999 ∧ e.floor ≤ 9999 ∧ e.ceiling ≤ 9999 ∧ e.window ≤ 180 ∧ e.cap ≤ 9999 ∧ e.floor ≤ e.ceiling then
      pure (.band e)
    else none
  | .curve _ => do
    let p1 ← pointOf bs 4
    let p2 ← pointOf bs 10
    let p3 ← pointOf bs 16
    let e : CurveEntry := ⟨fieldNat bs 0 2, fieldNat bs 2 2, p1, p2, p3⟩
    if e.value0 ≤ 511 ∧ e.slope0 ≤ 2047 ∧ p1.source ≤ p2.source ∧ p2.source ≤ p3.source then
      pure (.curve e)
    else none
  | .concession _ => if fieldNat bs 0 2 ≤ 256 then some (.concession (fieldNat bs 0 2)) else none

end Sys2Proof.Machine
end

