-- ==== Sys2Proof/Machine/Flags.lean ====
section
/-! DEFINITION. The flags of the part: busy, owed and armed flags, the alert masks, and the alerts they let through. -/
namespace Sys2Proof.Machine

/-- The engine busy flag: a decision is in progress (R27). -/
def State.engineBusy (s : State) : Bool := s.engine.isSome

/-- Muster is called for while either request is active (R146). -/
def State.musterCalled (s : State) : Bool := s.musterLine || s.commandRequest

/-- Written records plus reserved slots (R130). -/
def State.total (s : State) : Nat := s.written.length + s.reserved

/-- The Record Queue can reserve a slot (R137). -/
def State.canReserve (s : State) : Bool := decide (s.total < Config.queueCapacity)

/-- Sequence number of the oldest held record (R140, R142). -/
def State.oldestSeq (s : State) : Option SeqNumber := s.written.head?.map (·.seq)

/-- Replies owed: one for each waiting filter write, one for a waiting activation (R172). -/
def State.owed (s : State) : Nat :=
  s.waitingWrites.length + (if s.waitingActivation.isSome then 1 else 0)

/-- Frames waiting to leave plus replies owed (R170, R173). -/
def State.committed (s : State) : Nat := s.outgoing.length + s.owed

/-- A slot is busy while in flight, or while it is the bound slot of the decision in progress (R105). -/
def State.slotBusy (s : State) (k : SlotNo) : Bool :=
  (match s.slots[k] with
    | some p => p.inFlight
    | none => false)
  || (match s.engine with
    | some d => decide (d.slot = some k)
    | none => false)

/-- An alert: held back by its mask (R168), dropped when the list has no unpromised room (R174), else sent last. -/
def State.alert (s : State) (masked : Bool) (a : Alert) : State :=
  if masked then s
  else if Config.outgoingCapacity ≤ s.committed then s
  else { s with outgoing := s.outgoing ++ [.alert a] }

/-- The queue high alert once the total has risen to the high mark (R142). -/
def State.queueRose (s : State) : State :=
  if s.total = s.params.highMark ∧ s.queueHighArmed then
    State.alert { s with queueHighArmed := false } s.masks.queueHigh
      (.queueHigh s.written.length s.reserved s.oldestSeq)
  else s

/-- The queue high flag once the total has fallen: armed when it is below the mark (R142). -/
def State.queueFell (s : State) : State :=
  if s.total < s.params.highMark then { s with queueHighArmed := true } else s

/-- The capacity alert once boarded plus held has risen to the capacity of berth b's sailing (R78, R79). -/
def State.capacityRose (s : State) (b : BerthNo) : State :=
  match s.sailings[b] with
  | none => s
  | some sl =>
    if sl.boarded + sl.held = sl.capacity ∧ sl.alertArmed then
      State.alert { s with sailings := s.sailings.set b (some { sl with alertArmed := false }) }
        s.masks.capacityReached (.capacityReached b sl.id sl.capacity sl.boarded sl.held)
    else s

/-- The capacity flag once a held place has been released (R78). -/
def Sailing.rearmed (sl : Sailing) : Sailing :=
  if sl.boarded + sl.held < sl.capacity then { sl with alertArmed := true } else sl

end Sys2Proof.Machine
end

