-- ==== Sys2Proof/Machine/Ops.lean ====
section
/-! DEFINITION. The shared operations of the blocks. Each command is written over these. -/
namespace Sys2Proof.Machine

/-- What one command answers. -/
abbrev Result := Host.Outcome State Fault Refusal

/-- A count that stays at its largest value (00_scope.md, "Counts"). -/
def satAdd (limit n k : Nat) : Nat := min limit (n + k)

/-! ### The clock and the time base (R163) -/

/-- The service time now. In service the clock is always set (R163); read unset it gives 0 (log 13). -/
def State.now (s : State) : ServiceTime := s.clock.getD ⟨0, 0⟩

/-- Elapsed seconds from `last` to `now`, in whole numbers with sign (R95, R109). -/
def elapsed (now last : ServiceTime) : Int :=
  ((now.day : Int) - last.day) * 86400 + ((now.second : Int) - last.second)

/-- The tenth at which a timer has run its length (R14, R22). -/
def Timer.deadline (t : Timer) : Nat := t.start + t.length

/-- The time base has come at least to tenth `t`; every tenth on the way counts towards the clock's second. The clock itself
moves at CLOCK_SECOND alone, before or after this as the queue has it (log 3). -/
def State.timeReaches (s : State) (t : Nat) : State :=
  { s with timeBase := max s.timeBase t, tenths := s.tenths + (t - s.timeBase) }

/-- A slot at the day rollover: 0 uses, or 1 when in flight (R113). -/
def PassSlot.rollover (p : PassSlot) : PassSlot :=
  { p with uses := if p.inFlight then 1 else 0 }

/-- The day rollover, taken on every filled slot (R113). -/
def State.rollover (s : State) : State :=
  { s with slots := s.slots.map fun o => o.map PassSlot.rollover }

/-! ### Frames produced (R8, R173) -/

/-- A frame is produced on a gate lane, behind those produced before it (R8). -/
def State.sendLane (s : State) (g : Gate) (f : GateFrame) : State :=
  { s with laneOut := s.laneOut.set g (s.laneOut[g] ++ [f]) }

/-- Frames join the end of the outgoing list as one run (R173). -/
def State.produce (s : State) (fs : List UplinkFrame) : State :=
  { s with outgoing := s.outgoing ++ fs }

/-- A REPLY is produced (R171). -/
def State.reply (s : State) (c : Command) (tag : Byte) (r : ReplyResult) (d : ReplyData) : State :=
  s.produce [.reply c.code tag r d]

/-- The VERDICT that answers a tap at once: no reason, no charge, no balance, no mark (R13). -/
def State.answerTap (s : State) (g : Gate) (tap : TapNumber) (o : VerdictOutcome) : State :=
  s.sendLane g (.verdict tap o none 0 none false)

/-! ### Gate contexts (R4, R6) -/

/-- A gate context is replaced. -/
def State.setGate (s : State) (g : Gate) (c : GateContext) : State :=
  { s with gates := s.gates.set g c }

/-- The computed mode (R6). -/
def computedMode : ServiceState → GateState → GateMode
  | .config, _ => .closed
  | .muster, _ => .freeEgress
  | .inService, .active => .normal
  | .inService, .draining => .closed
  | .inService, .disabled => .closed

/-- The computed mode is worked out again and sent when it differs from the mode last sent (R6). -/
def State.refreshMode (s : State) (g : Gate) : State :=
  let m := computedMode s.service s.gates[g].state
  if s.gates[g].modeSent = some m then s
  else (s.setGate g { s.gates[g] with modeSent := some m }).sendLane g (.gateMode m)

/-- Every gate's mode, worked out again at a change of service state (R6). -/
def State.refreshModes (s : State) : State :=
  (List.finRange 16).foldl State.refreshMode s

/-- Most transactions a lane kind allows (R2). -/
def LaneKind.places : LaneKind → Nat
  | .standard => 1
  | .tandem => 2

/-- The gate context once the transaction with this tap number has left its list; a DRAINING gate whose list is now
empty becomes DISABLED, and no frame follows from that (R21, R4; log 15). -/
def GateContext.ended (c : GateContext) (tap : TapNumber) : GateContext :=
  let l := c.list.eraseP (fun t => decide (t.tap = tap))
  { c with list := l, state := if c.state = .draining ∧ l = [] then .disabled else c.state }

/-- A transaction ends (R21). -/
def State.endTx (s : State) (g : Gate) (tap : TapNumber) : State :=
  s.setGate g (s.gates[g].ended tap)

/-- The transaction at gate g with this tap number is replaced; the others keep their places (R10). -/
def State.updateTx (s : State) (g : Gate) (tap : TapNumber) (f : Transaction → Transaction) : State :=
  s.setGate g { s.gates[g] with list := s.gates[g].list.map fun t => if t.tap = tap then f t else t }

/-- The transaction of a list that carries this tap number. -/
def findTap (l : List Transaction) (tap : TapNumber) : Option Transaction :=
  l.find? fun t => decide (t.tap = tap)

/-- A transaction is PENDING. -/
def Transaction.isPending (t : Transaction) : Bool :=
  match t.state with
  | .pending _ => true
  | _ => false

/-- What the Berth Table, the Pass Slot Table and the Record Queue act on when a transaction ends: what it holds while
AWAITING_PASSAGE. -/
def Transaction.awaiting? (t : Transaction) : Option Awaiting :=
  match t.state with
  | .awaiting a => some a
  | _ => none

/-! ### The Record Queue (R135, R136) -/

/-- One slot is reserved; the rise of the total can raise QUEUE_HIGH (R136, R142). -/
def State.reserveSlot (s : State) : State :=
  State.queueRose { s with reserved := s.reserved + 1 }

/-- A reservation is released without a record (R43). -/
def State.releaseSlot (s : State) : State :=
  State.queueFell { s with reserved := s.reserved - 1 }

/-- A record is written into its reserved slot with the next sequence number (R134, R135). -/
def State.writeRecord (s : State) (b : RecordBody) : State :=
  { s with
    written := s.written ++ [⟨s.nextSeq, b⟩]
    reserved := s.reserved - 1
    nextSeq := s.nextSeq + 1 }

/-- The tap record of a transaction at gate g (R132). -/
def tapRecord (s : State) (g : Gate) (tap : TapNumber) (card : CardData) (v : Verdict) (kind : TapKind)
    (resolution : ServiceTime) : RecordBody :=
  .tap
    { kind := kind
      gate := g
      berth := s.gates[g].config.berth
      sailing := v.sailing
      tap := tap
      media := card.media
      product := card.product
      concession := card.concession
      filterIndex := v.filterIndex
      reason := v.reason
      crew := v.crew
      inspect := v.inspect
      bank := v.bank
      fareValue := v.fareValue
      credit := v.credit
      charged := v.charged
      newBalance := v.newBalance
      verdictTime := v.time
      resolutionTime := resolution }

/-! ### The Berth Table (R66 to R75) -/

/-- Berth b's sailing record is replaced. -/
def State.setSailing (s : State) (b : BerthNo) (o : Option Sailing) : State :=
  { s with sailings := s.sailings.set b o }

/-- Berth b's sailing, when it has one, is changed. -/
def State.onSailing (s : State) (b : BerthNo) (f : Sailing → Sailing) : State :=
  s.setSailing b (s.sailings[b].map f)

/-- A held place is released (R20, R22, R150); the capacity alert is armed again when that leaves room (R78). -/
def Sailing.released (sl : Sailing) : Sailing :=
  Sailing.rearmed { sl with held := sl.held - 1 }

/-- Charged fares of boarded passengers, saturating (R71). -/
def Sailing.earned (sl : Sailing) (charged : Nat) : Sailing :=
  { sl with revenue := satAdd 4294967295 sl.revenue charged }

/-- A held place becomes a boarded one (R19). -/
def Sailing.passed (sl : Sailing) (charged : Nat) : Sailing :=
  Sailing.earned { sl with held := sl.held - 1, boarded := sl.boarded + 1 } charged

/-- A place is held for a passenger let through at a CONFIRMED gate (R16). -/
def Sailing.holding (sl : Sailing) : Sailing := { sl with held := sl.held + 1 }

/-- A passenger is boarded at once at a DIRECT gate (R17). -/
def Sailing.boardedAtOnce (sl : Sailing) (charged : Nat) : Sailing :=
  Sailing.earned { sl with boarded := sl.boarded + 1 } charged

/-- The crew count rises by one, saturating at 255 (R69). -/
def Sailing.crewPassed (sl : Sailing) : Sailing := { sl with crew := satAdd 255 sl.crew 1 }

/-- The refused count rises by one, saturating at 65,535 (R70). -/
def Sailing.refusedOne (sl : Sailing) : Sailing := { sl with refused := satAdd 65535 sl.refused 1 }

/-- The Berth Table tells the decision in progress that its sailing found has left BOARDING, or has closed (R31). -/
def State.noteChange (s : State) (b : BerthNo) (c : SailingChange) : State :=
  match s.engine with
  | some d =>
    if d.found.map (·.berth) = some b ∧ d.change ≠ .closed then { s with engine := some { d with change := c } } else s
  | none => s

/-- A crew transaction that awaits its passage loses its marker (R69, R75). -/
def Transaction.markerDropped (t : Transaction) : Transaction :=
  match t.state with
  | .awaiting a => if a.place = .crew then { t with state := .awaiting { a with place := .nothing } } else t
  | _ => t

/-- The crew markers at a berth's gates are dropped (R75 step 3). -/
def State.dropCrewMarkers (s : State) (b : BerthNo) : State :=
  { s with gates := s.gates.map fun c =>
      if c.config.berth = some b then { c with list := c.list.map Transaction.markerDropped } else c }

/-- The summary of a sailing that closes (R77). -/
def summaryOf (b : BerthNo) (sl : Sailing) (closing : ServiceTime) : RecordBody :=
  .summary
    { sailing := sl.id
      berth := b
      line := sl.line
      capacity := sl.capacity
      boarded := sl.boarded
      crew := sl.crew
      refused := sl.refused
      revenue := sl.revenue
      openingTime := sl.openingTime
      closingTime := closing }

/-- The sailing of berth b closes (R75). -/
def State.closeSailing (s : State) (b : BerthNo) : State :=
  match s.sailings[b] with
  | none => s
  | some sl =>
    State.noteChange (((s.writeRecord (summaryOf b sl s.now)).dropCrewMarkers b).setSailing b none) b .closed

/-- A CLOSING sailing whose held count has fallen to 0 closes (R74). -/
def State.closeIfEmpty (s : State) (b : BerthNo) : State :=
  match s.sailings[b] with
  | some sl => if sl.state = .closing ∧ sl.held = 0 then s.closeSailing b else s
  | none => s

/-- The gate's berth, when it has one, is acted on. -/
def State.atBerthOf (s : State) (g : Gate) (f : State → BerthNo → State) : State :=
  match s.gates[g].config.berth with
  | some b => f s b
  | none => s

/-! ### The Pass Slot Table (R110 to R112) -/

/-- Pass slot k is replaced. -/
def State.setSlot (s : State) (k : SlotNo) (o : Option PassSlot) : State :=
  { s with slots := s.slots.set k o }

/-- Pass slot k, when it is filled and there is one, is changed. -/
def State.onSlot (s : State) (k : Option SlotNo) (f : PassSlot → PassSlot) : State :=
  match k with
  | some k => s.setSlot k (s.slots[k].map f)
  | none => s

/-- A use is confirmed: the marker is cleared and the last use set (R111). -/
def PassSlot.confirmed (t : ServiceTime) (p : PassSlot) : PassSlot :=
  { p with inFlight := false, lastUse := some t }

/-- A use is taken back (R112). -/
def PassSlot.takenBack (p : PassSlot) : PassSlot :=
  { p with uses := p.uses - 1, inFlight := false }

/-- A use is counted at an open verdict: in flight at a CONFIRMED gate, confirmed at once at a DIRECT one (R110). -/
def PassSlot.counted (counting : Counting) (t : ServiceTime) (p : PassSlot) : PassSlot :=
  match counting with
  | .confirmed => { p with uses := p.uses + 1, inFlight := true }
  | .direct => { p with uses := p.uses + 1, lastUse := some t }

/-! ### Endings of an AWAITING_PASSAGE transaction (R19, R20, R22, R150) -/

/-- It ends as a boarding (R19): place, slot use, record, list. -/
def State.endBoarded (s : State) (g : Gate) (t : Transaction) (a : Awaiting) : State :=
  let s1 := s.atBerthOf g fun s b => match a.place with
    | .passenger => s.onSailing b fun sl => sl.passed a.verdict.charged
    | .crew => s.onSailing b Sailing.crewPassed
    | .nothing => s
  let s2 := s1.onSlot a.slot (PassSlot.confirmed s.now)
  let s3 := s2.writeRecord (tapRecord s2 g t.tap t.card a.verdict .boarded s.now)
  s3.endTx g t.tap

/-- It ends without a boarding (R20, R22, R150): the place is released, the slot use taken back, the record written. -/
def State.endNotBoarded (s : State) (g : Gate) (t : Transaction) (a : Awaiting) (kind : TapKind) : State :=
  let s1 := s.atBerthOf g fun s b => match a.place with
    | .passenger => s.onSailing b Sailing.released
    | .crew => s
    | .nothing => s
  let s2 := s1.onSlot a.slot PassSlot.takenBack
  let s3 := s2.writeRecord (tapRecord s2 g t.tap t.card a.verdict kind s.now)
  s3.endTx g t.tap

/-! ### Fare Table Banks (R117) -/

/-- The bank of a name. -/
def State.bank (s : State) : BankName → Bank
  | .bankA => s.bankA
  | .bankB => s.bankB

/-- The bank of a name is replaced. -/
def State.setBank (s : State) (n : BankName) (b : Bank) : State :=
  match n with
  | .bankA => { s with bankA := b }
  | .bankB => { s with bankB := b }

/-- The bank is held unchangeable: it is active, or the waiting activation names it (R120, R122, R123). -/
def State.bankHeld (s : State) (n : BankName) : Bool :=
  decide (s.activeBank = some n) || decide (s.waitingActivation.map (·.bank) = some n)

/-- A waiting activation is applied and its REPLY OK produced (R125, R126). -/
def State.applyActivation (s : State) : State :=
  match s.waitingActivation with
  | none => s
  | some w =>
    State.reply { s with activeBank := some w.bank, waitingActivation := none } .activateBank w.tag .ok (.bank w.bank)

/-! ### The Media Filter (R54) -/

/-- One waiting write is applied and its REPLY OK produced (R53). -/
def State.applyWrite (s : State) (w : FilterWrite) : State :=
  State.reply { s with filters := s.filters.set w.index w.entry } .loadFilter w.tag .ok .nothing

/-- The writes that waited on a search are applied in the order taken, each followed by its REPLY (R54). -/
def State.applyWrites (s : State) : State :=
  s.waitingWrites.foldl State.applyWrite { s with waitingWrites := [] }

/-! ### Taking a management command (R169, R170) -/

/-- The frame at the front of the receive list can be taken: the part takes events, and frames waiting plus replies owed
number 47 or fewer (R170, R166). -/
def State.canTake (s : State) : Bool :=
  decide (s.phase = .running) && decide (s.committed ≤ Config.takeLimit)

/-- The frame at the front of the receive list is taken when it carries this command: with a wrong payload length it is
answered MALFORMED, else it is handed to its block (R169). Where the command's frame is not there to be taken the
command does not come about and nothing changes (log 2). -/
def takeFrame {α : Type} (c : Command) (parse : List Byte → Option α) (handle : Byte → α → State → State)
    (s : State) : Result :=
  match s.receiveList with
  | [] => .next s
  | f :: rest =>
    if s.canTake ∧ f.code = c.code then
      let s1 := { s with receiveList := rest }
      match parse f.args with
      | none => .next (s1.reply c f.tag .malformed .nothing)
      | some a => .next (handle f.tag a s1)
    else .next s

end Sys2Proof.Machine
end

