-- ==== Sys2Proof/Machine/FilterSearch.lean ====
section
/-! DEFINITION. Matching and searching the media filter list (3.1, 3.2). -/
namespace Sys2Proof.Machine

/-- The media number passes the test of the entry's kind (R46). -/
def FilterRule.numberPasses (r : FilterRule) (m : Media) : Bool :=
  match r.kind with
  | .range => decide (r.first.toNat ≤ m.toNat ∧ m.toNat ≤ r.second.toNat)
  | .pair => decide (m = r.first ∨ m = r.second)
  | .masked => decide (m &&& r.second = r.first &&& r.second)

/-- The card's issuer passes the entry's issuer test (R47). -/
def FilterRule.issuerPasses (r : FilterRule) (issuer : Byte) : Bool :=
  match r.issuer with
  | none => true
  | some i => decide (issuer = i)

/-- An enabled entry matches a card (R48). -/
def FilterRule.matchesCard (r : FilterRule) (m : Media) (issuer : Byte) : Bool :=
  r.numberPasses m && r.issuerPasses issuer

/-- Where a search ends: the first index, upward from 0, whose entry is enabled and matches the card (R49). -/
def searchFilters (filters : Vector (Option FilterRule) 128) (m : Media) (issuer : Byte) :
    Option (FilterIndex × FilterRule) :=
  (List.finRange 128).findSome? fun i =>
    match filters[i] with
    | some r => if r.matchesCard m issuer then some (i, r) else none
    | none => none

end Sys2Proof.Machine
end

