-- ==== Sys2Proof/Machine/Pricing.lean ====
section
/-! DEFINITION. The pricing stages (chapter 5): whole-number arithmetic, every division discarding its remainder. -/
namespace Sys2Proof.Machine

/-- Pricing stage 1: the occupancy index (R84). -/
def occupancyIndex (n c : Nat) : Nat := 256 * n / c

/-- The segment that applies at index `o`: the last point whose source `o` has reached, else segment 0 (R86). -/
def curveSegment (e : CurveEntry) (o : Nat) : CurvePoint :=
  if e.point3.source ≤ o then e.point3
  else if e.point2.source ≤ o then e.point2
  else if e.point1.source ≤ o then e.point1
  else ⟨0, e.value0, e.slope0⟩

/-- Pricing stage 2: the curve factor, clamped to 511; 256 for an unloaded curve (R87, R88). -/
def curveFactor (e : Option CurveEntry) (o : Nat) : Nat :=
  match e with
  | none => 256
  | some e =>
    let p := curveSegment e o
    min 511 (p.value + (o - p.source) * p.slope / 256)

/-- Pricing stage 3: the adjusted fare, rounded half up (R89). -/
def adjustedFare (base factor : Nat) : Nat := (base * factor + 128) / 256

/-- A value clamped into a band (R93). -/
def clampFare (low high v : Nat) : Nat :=
  if v < low then low else if high < v then high else v

/-- Pricing stage 4: concession and clamp; factor 0 is exempt, an unloaded one is full fare (R90 to R93). -/
def fareValue (band : BandEntry) (adjusted : Nat) (factor : Option Nat) : Nat :=
  let q := factor.getD 256
  if q = 0 then 0 else clampFare band.floor band.ceiling ((adjusted * q + 128) / 256)

/-- The service time of a card's last boarding (R95). -/
def LastBoarding.time (b : LastBoarding) : ServiceTime := ⟨b.day.toNat, b.second.toNat⟩

/-- Pricing stage 5: the transfer credit, by the checks of R94 in order. -/
def transferCredit (kind : ProductKind) (last : Option LastBoarding) (line : LineCode) (band : BandEntry)
    (now : ServiceTime) : Nat :=
  if kind ≠ .storedValue then 0
  else match last with
    | none => 0
    | some b =>
      if b.line.toNat = line.val then 0
      else if band.window = 0 then 0
      else if elapsed now b.time < 0 ∨ (band.window * 60 : Int) < elapsed now b.time then 0
      else min b.farePaid.toNat band.cap

/-- Pricing stage 6: the net fare (R96). -/
def netFare (value credit : Nat) : Nat := value - credit

/-- Pricing stage 7: the balance less the charged fare is not below minus the overdraft allowance (R99). -/
def pursePays (balance : Int) (net overdraft : Nat) : Bool :=
  decide (-(overdraft : Int) ≤ balance - net)

/-- The fare value of a tap, from the tables of the bank used (R82, R84 to R93). -/
def priceTap (bank : Bank) (band : BandEntry) (occ : Occupancy) (concession : Byte) : Nat :=
  let factor := (bank.concessions[concession.toNat]?).getD none
  fareValue band
    (adjustedFare band.base (curveFactor bank.curves[band.curve] (occupancyIndex occ.occupied occ.capacity))) factor

end Sys2Proof.Machine
end

