-- ==== Sys2Proof/Machine/Engine.lean ====
section
/-! DEFINITION. The Tap Arbiter and the Fare Engine: the grant and the eight stages of a decision (chapter 2). -/
namespace Sys2Proof.Machine

/-! ### The grant (R28 to R30) -/

/-- The conditions of R28 that do not depend on the transaction. -/
def State.grantsOpen (s : State) : Bool :=
  decide (s.phase = .running) && decide (s.service = .inService) && !s.engineBusy
    && s.waitingActivation.isNone && s.canReserve

/-- The gate holds a transaction that is PENDING at an ACTIVE gate (R28). -/
def State.hasEligible (s : State) (g : Gate) : Bool :=
  decide (s.gates[g].state = .active) && s.gates[g].list.any Transaction.isPending

/-- The rotating order that starts after the last-granted gate (R29). -/
def rotation (last : Gate) : List Gate :=
  (List.finRange 16).map fun i => last + 1 + i

/-- The gate the arbiter chooses: the highest priority present, then the first in rotation (R29). -/
def State.arbiterChoice (s : State) : Option Gate :=
  let candidates := (rotation s.lastGranted).filter s.hasEligible
  let top := candidates.foldl (fun m g => max m s.gates[g].config.priority) 0
  candidates.find? fun g => decide (s.gates[g].config.priority = top)

/-- The transaction the arbiter grants: the oldest PENDING one of the gate chosen (R29). -/
def State.arbiterGrant (s : State) : Option (Gate × Transaction) :=
  s.arbiterChoice.bind fun g => (s.gates[g].list.find? Transaction.isPending).map fun t => (g, t)

/-- The working items at the grant (R30, R31). An active bank of NONE, which service excludes (R158), reads as A (log 13). -/
def newDecision (s : State) (g : Gate) (tap : TapNumber) : Decision where
  gate := g
  tap := tap
  stage := .sailing
  bank := s.activeBank.getD .bankA
  time := s.now
  found := none
  change := .unchanged
  occupancy := none
  filterIndex := none
  crew := false
  inspect := false
  slot := none
  kind := none
  fareValue := 0
  credit := 0
  charged := 0
  newBalance := none
  refusal := none

/-- The tap wait timer is cancelled and the transaction becomes DECIDING (R30). -/
def Transaction.granted (t : Transaction) : Transaction := { t with state := .deciding }

/-- The grant of transaction `t` at gate g (R30). -/
def State.grantTo (s : State) (g : Gate) (t : Transaction) : State :=
  State.reserveSlot
    { s.updateTx g t.tap Transaction.granted with
      lastGranted := g
      engine := some (newDecision s g t.tap) }

/-- GRANT (R30). With no eligible transaction there is no grant (log 2). -/
def execGrant (s : State) : Result :=
  match s.arbiterGrant with
  | some (g, t) => if s.grantsOpen then .next (s.grantTo g t) else .next s
  | none => .next s

/-! ### Running a stage -/

/-- The decision refuses: the reason stands, stage 8 follows, and the binding of a bound slot ends (2.3, R105; log 10). -/
def Decision.refuse (d : Decision) (r : Reason) : Decision :=
  { d with refusal := some r, stage := .verdict, slot := none }

/-- The decision in progress and its transaction, when its next stage is `st` and the part takes events (R31, R166). -/
def State.atStage (s : State) (st : Stage) : Option (Decision × Transaction) :=
  if s.phase = .running then
    s.engine.bind fun d =>
      if d.stage = st then (findTap s.gates[d.gate].list d.tap).map fun t => (d, t) else none
  else none

/-- The decision in progress is replaced. -/
def State.setEngine (s : State) (d : Decision) : State := { s with engine := some d }

/-! ### Stage 1 (R32) -/

/-- Stage 1: the sailing of the gate's berth (R32). SUSPENDED is not met in service (R32; log 13). -/
def sailingStage (s : State) (d : Decision) : Decision :=
  match s.gates[d.gate].config.berth with
  | none => d.refuse .noSailing
  | some b =>
    match s.sailings[b] with
    | none => d.refuse .noSailing
    | some sl =>
      match sl.state with
      | .boarding => { d with found := some ⟨b, sl.id, sl.line⟩, stage := .cardData }
      | .closing => Decision.refuse { d with found := some ⟨b, sl.id, sl.line⟩ } .departing
      | .suspended => d.refuse .noSailing

/-- SAILING_STAGE (R32). -/
def execSailingStage (s : State) : Result :=
  match s.atStage .sailing with
  | some (d, _) => .next (s.setEngine (sailingStage s d))
  | none => .next s

/-! ### Stage 2 (R33) -/

/-- The last boarding group is in range (R33). -/
def LastBoarding.inRange (b : LastBoarding) : Bool :=
  decide (b.second.toNat < 86400 ∧ b.line.toNat ≤ 31 ∧ b.farePaid.toNat ≤ 9999)

/-- The card data is in range (R33). -/
def CardData.inRange (c : CardData) : Bool :=
  decide (c.media ≠ 0 ∧ c.issuer ≠ 255 ∧ c.concession.toNat ≤ 7 ∧ -99999 ≤ c.balance.toInt ∧ c.balance.toInt ≤ 999999)
    && (match c.lastBoarding with
      | some b => b.inRange
      | none => true)

/-- Stage 2: the card data ranges (R33). -/
def cardDataStage (d : Decision) (c : CardData) : Decision :=
  if c.inRange then { d with stage := .filter } else d.refuse .cardData

/-- CARD_DATA_STAGE (R33). -/
def execCardDataStage (s : State) : Result :=
  match s.atStage .cardData with
  | some (d, t) => .next (s.setEngine (cardDataStage d t.card))
  | none => .next s

/-! ### Stage 3 (R34, R49) -/

/-- FILTER_SEARCH: stage 3 begins and its search runs (R49). -/
def execFilterSearch (s : State) : Result :=
  match s.atStage .filter with
  | some (d, _) => .next (s.setEngine { d with stage := .searching })
  | none => .next s

/-- What the action of a matching entry does to the decision (R34). -/
def actOn (d : Decision) (i : FilterIndex) (a : FilterAction) : Decision :=
  let d := { d with filterIndex := some i }
  match a with
  | .refuse => d.refuse .listed
  | .priority => { d with crew := true, stage := .verdict }
  | .inspect => { d with inspect := true, stage := .product }
  | .slot k => { d with slot := some k, stage := .product }
  | .accept => { d with stage := .product }

/-- What the default action does to the decision (R34, R50). -/
def actByDefault (d : Decision) (a : DefaultAction) : Decision :=
  match a with
  | .accept => { d with stage := .product }
  | .refuse => d.refuse .listed

/-- The last priority match record is replaced and its alert raised (R57, R58). -/
def State.priorityMatched (s : State) (m : PriorityMatch) : State :=
  State.alert { s with lastPriority := some m } s.masks.priorityMatch (.priorityMatch m)

/-- The search completes and hands its result to the decision (R49, R34). -/
def State.searchEnds (s : State) (d : Decision) (c : CardData) : State :=
  match searchFilters s.filters c.media c.issuer with
  | some (i, r) =>
    let s := s.setEngine (actOn d i r.action)
    if r.action = .priority then s.priorityMatched ⟨d.gate, i, c.media, d.time⟩ else s
  | none => s.setEngine (actByDefault d s.params.defaultAction)

/-- FILTER_SEARCH_COMPLETE (R54): after the result, the waiting writes are applied and answered. -/
def execFilterSearchComplete (s : State) : Result :=
  match s.atStage .searching with
  | some (d, t) => .next (s.searchEnds d t.card).applyWrites
  | none => .next s

/-! ### Stage 4 (R35) -/

/-- The product entry a product code names, when there is one and it is loaded (R35). -/
def Bank.product (b : Bank) (code : Byte) : Option ProductEntry :=
  (b.products[code.toNat]?).getD none

/-- Stage 4: product and band of the bank used (R35). -/
def productStage (bank : Bank) (d : Decision) (c : CardData) : Decision :=
  match bank.product c.product with
  | none => d.refuse .noProduct
  | some e =>
    let d := { d with kind := some e.kind, slot := if e.kind = ProductKind.cappedPass then d.slot else none }
    match d.found.bind (fun f => bank.bands[f.line]) with
    | none => d.refuse .noFare
    | some _ => { d with stage := .capacity }

/-- PRODUCT_STAGE (R35). -/
def execProductStage (s : State) : Result :=
  match s.atStage .product with
  | some (d, t) => .next (s.setEngine (productStage (s.bank d.bank) d t.card))
  | none => .next s

/-! ### Stage 5 (R36) -/

/-- Stage 5 with the counts it reads: room, or FULL (R36). -/
def capacityStage (d : Decision) (o : Occupancy) : Decision :=
  if o.occupied < o.capacity then { d with occupancy := some o, stage := .productKind } else d.refuse .full

/-- Boarded plus held and the capacity of the sailing found, while it is still its berth's sailing (R36). -/
def State.occupancyOf (s : State) (d : Decision) : Option Occupancy :=
  if d.change = .closed then none
  else d.found.bind fun f => s.sailings[f.berth].map fun sl => ⟨sl.boarded + sl.held, sl.capacity⟩

/-- FREE VALUE (log 7): what stage 5 reads of a sailing that has closed since stage 1. R82 limits the capacity to 1 to
999 and the occupancy to less; R44 and R75 have stage 8 refuse the decision. -/
def freeOccupancy (n : Nat) : Occupancy :=
  let c := 1 + Config.closedCapacity n % 999
  ⟨Config.closedOccupancy n % c, c⟩

/-- The sailing found is CLOSING when stage 5 comes: stage 5 and the fare are not reached for it, and stage 8 follows, whose
recheck refuses DEPARTING (R73, R39). That stage 6 is passed over with them, and that a decision past stage 5 at the DEPART
goes on through stages 6 and 7 instead (R103), is the model's reading (log 28). -/
def Decision.toRecheck (d : Decision) : Decision := { d with stage := .verdict }

/-- CAPACITY_STAGE (R36). On a sailing that has become CLOSING since stage 1 no count is read and no FULL is given (R73;
log 28); of a sailing that has closed the counts are free values (log 7). -/
def execCapacityStage (s : State) : Result :=
  match s.atStage .capacity with
  | some (d, _) =>
    if d.change = .left then .next (s.setEngine d.toRecheck)
    else match s.occupancyOf d with
      | some o => .next (s.setEngine (capacityStage d o))
      | none =>
        .next (State.setEngine { s with freeCount := s.freeCount + 1 } (capacityStage d (freeOccupancy s.freeCount)))
  | none => .next s

/-! ### Stage 6 (R37, R108) -/

/-- A pass is valid on the decision time's day (R37). -/
def notExpired (expiry : Option (BitVec 16)) (today : Nat) : Bool :=
  match expiry with
  | some e => decide (today ≤ e.toNat)
  | none => false

/-- The slot checks of R108, on a slot that matches the card. -/
def slotRefusal (p : PassSlot) (now : ServiceTime) (interval : Nat) : Option Reason :=
  if p.inFlight then some .passback
  else if (match p.lastUse with
      | some t => decide (elapsed now t < interval)
      | none => false) then some .passback
  else if p.uses = p.limit then some .passUsedUp
  else none

/-- Slot match and slot checks of a capped pass (R37, R108). -/
def cappedRefusal (slots : Vector (Option PassSlot) 64) (interval : Nat) (d : Decision) (c : CardData) : Option Reason :=
  match d.slot.bind (fun k => slots[k]) with
  | none => some .slotMismatch
  | some p => if p.media = c.media then slotRefusal p d.time interval else some .slotMismatch

/-- The first check of R37 that fails. -/
def kindRefusal (s : State) (d : Decision) (c : CardData) : Option Reason :=
  let entry := (s.bank d.bank).product c.product
  let covered := match entry, d.found with
    | some e, some f => e.lines.getLsbD f.line.val
    | _, _ => false
  match d.kind with
  | some .storedValue => none
  | none => none
  | some .periodPass =>
    if !notExpired c.passExpiry d.time.day then some .expired
    else if !covered then some .lineNotCovered
    else none
  | some .cappedPass =>
    if !notExpired c.passExpiry d.time.day then some .expired
    else if !covered then some .lineNotCovered
    else cappedRefusal s.slots s.params.passback d c

/-- Stage 6: the checks of the product kind (R37). -/
def productKindStage (s : State) (d : Decision) (c : CardData) : Decision :=
  match kindRefusal s d c with
  | some r => d.refuse r
  | none => { d with stage := .fare }

/-- PRODUCT_KIND_STAGE (R37). -/
def execProductKindStage (s : State) : Result :=
  match s.atStage .productKind with
  | some (d, t) => .next (s.setEngine (productKindStage s d t.card))
  | none => .next s

/-! ### Stage 7 (R38) -/

/-- Stage 7 with its inputs: price, credit and, for stored value, the purse check (R38, R97, R98, R99). -/
def fareStage (bank : Bank) (band : BandEntry) (occ : Occupancy) (line : LineCode) (kind : ProductKind) (overdraft : Nat)
    (d : Decision) (c : CardData) : Decision :=
  let v := priceTap bank band occ c.concession
  let t := transferCredit kind c.lastBoarding line band d.time
  let d := { d with fareValue := v, credit := t }
  match kind with
  | .storedValue =>
    if pursePays c.balance.toInt (netFare v t) overdraft then
      { d with charged := netFare v t, newBalance := some (c.balance.toInt - netFare v t), stage := .verdict }
    else Decision.refuse { d with newBalance := some c.balance.toInt } .lowBalance
  | .periodPass => { d with stage := .verdict }
  | .cappedPass => { d with stage := .verdict }

/-- FARE_STAGE (R38). The earlier stages have found the sailing, its band, the product kind and the occupancy. A DEPART
taken after stage 5 does not stop it: pricing completes (R103). -/
def execFareStage (s : State) : Result :=
  match s.atStage .fare with
  | some (d, t) =>
    match d.found, d.found.bind (fun f => (s.bank d.bank).bands[f.line]), d.kind, d.occupancy with
    | some f, some band, some kind, some occ =>
      .next (s.setEngine (fareStage (s.bank d.bank) band occ f.line kind s.params.overdraft d t.card))
    | _, _, _, _ => .next s
  | none => .next s

/-! ### Stage 8 (R39) -/

/-- The reason the decision refuses with at stage 8, after the recheck of the sailing (R39). -/
def Decision.finalRefusal (d : Decision) : Option Reason :=
  match d.refusal with
  | some r => some r
  | none => if d.change = .unchanged then none else some .departing

/-- The verdict fields of a refusal (R15, R39, R98; log 11). -/
def refusalVerdict (d : Decision) (c : CardData) (r : Reason) (now : ServiceTime) : Verdict where
  outcome := .refuse
  reason := some r
  charged := 0
  fareValue := d.fareValue
  credit := d.credit
  newBalance := if d.kind = some .storedValue then some c.balance.toInt else none
  inspect := d.inspect
  crew := d.crew
  filterIndex := d.filterIndex
  bank := d.bank
  time := now
  sailing := d.found.map (·.id)

/-- The verdict fields of an open (R16, R39). -/
def openVerdict (d : Decision) (now : ServiceTime) : Verdict where
  outcome := if d.crew then .openCrew else if d.inspect then .openInspect else .opened
  reason := none
  charged := d.charged
  fareValue := d.fareValue
  credit := d.credit
  newBalance := if d.kind = some .storedValue then d.newBalance else none
  inspect := d.inspect
  crew := d.crew
  filterIndex := d.filterIndex
  bank := d.bank
  time := now
  sailing := d.found.map (·.id)

/-- The VERDICT frame of a decided tap (R15, R16, R184). -/
def verdictFrame (tap : TapNumber) (v : Verdict) : GateFrame :=
  .verdict tap v.outcome v.reason v.charged v.newBalance v.inspect

/-- A refusal is given: refused count, VERDICT, REFUSED record, end (R15, R39, R70). -/
def State.giveRefusal (s : State) (d : Decision) (t : Transaction) (r : Reason) : State :=
  let v := refusalVerdict d t.card r s.now
  let s1 := match d.found with
    | some f => if d.change = SailingChange.closed then s else s.onSailing f.berth Sailing.refusedOne
    | none => s
  let s2 := s1.sendLane d.gate (verdictFrame t.tap v)
  let s3 := s2.writeRecord (tapRecord s2 d.gate t.tap t.card v .refused s.now)
  s3.endTx d.gate t.tap

/-- The Berth Table takes the place of an open, and raises CAPACITY_REACHED if that brought the sailing to capacity
(R39, R66, R78). -/
def State.takePlace (s : State) (d : Decision) (counting : Counting) : State :=
  match d.found with
  | none => s
  | some f =>
    match d.crew, counting with
    | true, .confirmed => s
    | true, .direct => s.onSailing f.berth Sailing.crewPassed
    | false, .confirmed => (s.onSailing f.berth Sailing.holding).capacityRose f.berth
    | false, .direct => (s.onSailing f.berth fun sl => sl.boardedAtOnce d.charged).capacityRose f.berth

/-- What an opened transaction holds while it waits for its passage (R16). -/
def awaitingOf (s : State) (d : Decision) (v : Verdict) : Awaiting where
  verdict := v
  window := ⟨s.timeBase, s.params.passageWindow⟩
  place := if d.crew then .crew else .passenger
  slot := d.slot

/-- An open is given (R16, R17, R39, R110). -/
def State.giveOpen (s : State) (d : Decision) (t : Transaction) : State :=
  let counting := s.gates[d.gate].config.counting
  let v := openVerdict d s.now
  let s1 := (s.takePlace d counting).onSlot d.slot (PassSlot.counted counting s.now)
  let s2 := s1.sendLane d.gate (verdictFrame t.tap v)
  match counting with
  | .confirmed => s2.updateTx d.gate t.tap fun t => { t with state := .awaiting (awaitingOf s d v) }
  | .direct => (s2.writeRecord (tapRecord s2 d.gate t.tap t.card v .boarded s.now)).endTx d.gate t.tap

/-- The verdict is given, the engine goes idle, and a waiting activation is applied (R39, R42). -/
def State.giveVerdict (s : State) (d : Decision) (t : Transaction) : State :=
  let s1 := match d.finalRefusal with
    | some r => s.giveRefusal d t r
    | none => s.giveOpen d t
  State.applyActivation { s1 with engine := none }

/-- VERDICT (R39). -/
def execVerdict (s : State) : Result :=
  match s.atStage .verdict with
  | some (d, t) => .next (s.giveVerdict d t)
  | none => .next s

end Sys2Proof.Machine
end

