-- ==== Sys2Proof/Machine/Records.lean ====
section
/-! DEFINITION. Collecting the records: FETCH_RECORDS and ACK_RECORDS (8.6). -/
namespace Sys2Proof.Machine

/-- FETCH_RECORDS checked and carried out: the oldest records and the REPLY as one run; nothing is removed (R139). -/
def fetchRecords (tag : Byte) (n : Byte) (s : State) : State :=
  if n.toNat = 0 ∨ 16 < n.toNat then s.reply .fetchRecords tag .badValue .nothing
  else
    let run := s.written.take n.toNat
    s.produce (run.map .record ++ [.reply Command.fetchRecords.code tag .ok (.sent run.length)])

/-- FETCH_RECORDS (R139). -/
def execFetchRecords (s : State) : Result :=
  takeFrame .fetchRecords parseOneByte fetchRecords s

/-- ACK_RECORDS checked and carried out: every record up to the one numbered `n` is removed (R140, R141). -/
def ackRecords (tag : Byte) (n : SeqNumber) (s : State) : State :=
  match s.written.findIdx? fun r => decide (r.seq = n) with
  | none => s.reply .ackRecords tag .badSeq (.oldest s.oldestSeq)
  | some i =>
    let left := s.written.drop (i + 1)
    (State.queueFell { s with written := left }).reply .ackRecords tag .ok (.acked (i + 1) left.length)

/-- ACK_RECORDS (R140). -/
def execAckRecords (s : State) : Result :=
  takeFrame .ackRecords parseAckRecords ackRecords s

end Sys2Proof.Machine
end

