-- ==== Sys2Proof/Machine/Reset.lean ====
section
/-! DEFINITION. The three kinds of reset (10.5 and the reset rule of each block). -/
namespace Sys2Proof.Machine

/-- A slot as any reset leaves it when it keeps the slot: the in-flight marker cleared, the use kept (R115). -/
def PassSlot.landed (p : PassSlot) : PassSlot := { p with inFlight := false }

/-- What a reset of any kind drops as it begins: transactions and timers, the decision and its binding, reservations and
sailings without a record, waiting writes and activation with their replies, and the frames in every list
(R26, R27, R55, R59, R81, R115, R129, R145, R179; log 14). -/
def State.dropWork (s : State) : State :=
  { s with
    gates := s.gates.map fun c => { c with list := [] }
    laneOut := Vector.replicate 16 []
    engine := none
    waitingWrites := []
    waitingActivation := none
    slots := s.slots.map fun o => o.map PassSlot.landed
    sailings := Vector.replicate 4 none
    reserved := 0
    receiveList := []
    outgoing := [] }

/-- A reset begins: the part is in reset and its work is dropped (R165). -/
def State.beginReset (s : State) (p : Phase) : State :=
  State.dropWork { s with phase := p }

/-- A gate context as the part comes out of reset: UNSENT, and then GATE_MODE CLOSED is sent (R26, R7). -/
def GateContext.afterReset (kept : Bool) (c : GateContext) : GateContext :=
  let config := if kept then c.config else GateSettings.default
  { config := config
    state := if config.enabled then .active else .disabled
    list := []
    modeSent := some .closed
    badFrames := 0
    strays := 0 }

/-- What every kind of reset sets as the part comes out of it (R165). -/
def State.resetCommon (kind : ResetKind) (s : State) : State :=
  { s.dropWork with
    gates := s.gates.map (GateContext.afterReset (decide (kind = .command)))
    laneRx := Vector.replicate 16 .hunting
    laneOut := Vector.replicate 16 [.gateMode .closed]
    lastGranted := 15
    service := .config
    resetCause := kind
    phase := .running
    uplinkRx := .hunting }

/-- What a POWER or LINE reset sets besides (R59, R81, R115, R129, R156, R161, R163, R168). -/
def State.resetTables (s : State) : State :=
  { s with
    filters := Vector.replicate 128 none
    lastPriority := none
    bankA := Bank.empty
    bankB := Bank.empty
    activeBank := none
    slots := Vector.replicate 64 none
    ceilings := none
    commandRequest := false
    params := Params.default
    clock := none
    masks := ⟨false, false, false⟩ }

/-- The queue high flag after a reset that keeps the records (R145). -/
def State.rearmAfterReset (s : State) : State :=
  { s with queueHighArmed := decide (s.written.length < s.params.highMark) }

/-- The part comes out of a reset of this kind (R165). -/
def State.comeOut (s : State) (kind : ResetKind) : State :=
  match kind with
  | .power => { (s.resetCommon .power).resetTables with written := [], nextSeq := 0, queueHighArmed := true }
  | .line => (s.resetCommon .line).resetTables.rearmAfterReset
  | .command => (s.resetCommon .command).rearmAfterReset

/-- RESET carried out: the REPLY is produced and the part takes no further event (R166). -/
def resetCommand (tag : Byte) (s : State) : State :=
  { s.reply .reset tag .ok .nothing with phase := .resetTaken }

/-- RESET (R166). -/
def execReset (s : State) : Result :=
  takeFrame .reset parseNothing (fun tag _ s => resetCommand tag s) s

/-- Every frame produced on any link has left it (R166). -/
def State.drained (s : State) : Bool :=
  s.outgoing.isEmpty && s.laneOut.toList.all List.isEmpty

/-- COMMAND_RESET_BEGIN (R166): once the REPLY and the frames produced before it have left. -/
def execCommandResetBegin (s : State) : Result :=
  if s.phase = .resetTaken ∧ s.drained then .next (s.beginReset (.commandReset s.timeBase)) else .next s

/-- COMMAND_RESET_END (R165): one tenth of a second after the reset began (log 3). -/
def execCommandResetEnd (s : State) : Result :=
  match s.phase with
  | .commandReset t => .next ((s.timeReaches (t + 1)).comeOut .command)
  | _ => .next s

/-- POWER_UP (R165): a POWER reset begins. -/
def execPowerUp (s : State) : Result :=
  .next (s.beginReset (.powerReset false))

/-- POWER_UP_COMPLETE (R165): the part comes out unless the RESET line holds it in reset. -/
def execPowerUpComplete (s : State) : Result :=
  match s.phase with
  | .powerReset _ => if s.resetLine then .next { s with phase := .powerReset true } else .next (s.comeOut .power)
  | _ => .next s

/-- RESET_LINE_ASSERTED (R165): a LINE reset begins, or the reset in progress becomes one. "A second assertion" is read as
any assertion taken during the reset: in a POWER reset that began with the line released, the first one too (log 8). -/
def execResetLineAsserted (s : State) : Result :=
  if s.resetLine then .next s else .next (State.beginReset { s with resetLine := true } .lineReset)

/-- RESET_LINE_RELEASED (R165): the part comes out of a LINE reset, and of a POWER reset whose power-up has completed. -/
def execResetLineReleased (s : State) : Result :=
  if s.resetLine then
    let s1 := { s with resetLine := false }
    match s.phase with
    | .lineReset => .next (s1.comeOut .line)
    | .powerReset true => .next (s1.comeOut .power)
    | _ => .next s1
  else .next s

end Sys2Proof.Machine
end

