-- ==== Sys2Proof/Machine/Sailings.lean ====
section
/-! DEFINITION. The sailing commands: SET_LIMITS, OPEN_SAILING, DEPART (chapter 4). -/
namespace Sys2Proof.Machine

/-- A ceiling is 1 to 999 (R61). -/
def ceilingOk (c : BitVec 16) : Bool := decide (1 ≤ c.toNat ∧ c.toNat ≤ 999)

/-- The four ceilings, in berth order (R61). -/
def SetLimitsArgs.ceilings (a : SetLimitsArgs) : Vector Nat 4 :=
  #v[a.berth0.toNat, a.berth1.toNat, a.berth2.toNat, a.berth3.toNat]

/-- SET_LIMITS checked and carried out, in the order of R61's table. Outside CONFIG with the ceilings set, row 1 answers
BAD_STATE (R61, R154, R157), where R62 says ALREADY_SET "in CONFIG as elsewhere": the model's reading (log 29). -/
def setLimits (tag : Byte) (a : SetLimitsArgs) (s : State) : State :=
  if s.service ≠ .config then s.reply .setLimits tag .badState .nothing
  else if s.ceilings.isSome then s.reply .setLimits tag .alreadySet .nothing
  else if ceilingOk a.berth0 && ceilingOk a.berth1 && ceilingOk a.berth2 && ceilingOk a.berth3 then
    State.reply { s with ceilings := some a.ceilings } .setLimits tag .ok .nothing
  else s.reply .setLimits tag .badValue .nothing

/-- SET_LIMITS (R61). -/
def execSetLimits (s : State) : Result :=
  takeFrame .setLimits parseSetLimits setLimits s

/-- The capacity applied: the one given, or the berth's ceiling when it is above that (R65). -/
def clampCapacity (ceilings : Option (Vector Nat 4)) (b : BerthNo) (given : Nat) : Nat :=
  match ceilings with
  | some tops => min given tops[b]
  | none => given

/-- A sailing as it opens (R65). -/
def openedSailing (id : SailingId) (line : LineCode) (capacity : Nat) (now : ServiceTime) : Sailing where
  state := .boarding
  id := id
  line := line
  capacity := capacity
  boarded := 0
  held := 0
  crew := 0
  refused := 0
  revenue := 0
  openingTime := now
  alertArmed := true

/-- The active bank holds a loaded band entry for the line (R64). -/
def State.activeBand (s : State) (line : LineCode) : Option BandEntry :=
  s.activeBank.bind fun n => (s.bank n).bands[line]

/-- OPEN_SAILING checked and carried out (R64, R65). -/
def openSailing (tag : Byte) (a : OpenSailingArgs) (s : State) : State :=
  match indexBelow 4 a.berth with
  | none => s.reply .openSailing tag .badIndex .nothing
  | some b =>
    if s.service ≠ .inService then s.reply .openSailing tag .badState .nothing
    else if s.sailings[b].isSome then s.reply .openSailing tag .badState .nothing
    else match (indexBelow 32 a.line).filter fun l => (s.activeBand l).isSome with
      | none => s.reply .openSailing tag .badValue .nothing
      | some line =>
        if a.capacity.toNat = 0 ∨ 9999 < a.capacity.toNat then s.reply .openSailing tag .badValue .nothing
        else if !s.canReserve then s.reply .openSailing tag .queueFull .nothing
        else
          let c := clampCapacity s.ceilings b a.capacity.toNat
          (s.reserveSlot.setSailing b (some (openedSailing a.sailing line c s.now))).reply .openSailing tag
            (if c = a.capacity.toNat then .ok else .clamped) (.capacity c)

/-- OPEN_SAILING (R65). -/
def execOpenSailing (s : State) : Result :=
  takeFrame .openSailing parseOpenSailing openSailing s

/-- DEPART checked and carried out (R72). -/
def depart (tag : Byte) (a : Byte) (s : State) : State :=
  match indexBelow 4 a with
  | none => s.reply .depart tag .badIndex .nothing
  | some b =>
    match s.sailings[b] with
    | none => s.reply .depart tag .badState .nothing
    | some sl =>
      match sl.state with
      | .closing => s.reply .depart tag .badState .nothing
      | .suspended => (s.closeSailing b).reply .depart tag .ok (.sailingState none)
      | .boarding =>
        if sl.held = 0 then (s.closeSailing b).reply .depart tag .ok (.sailingState none)
        else ((s.setSailing b (some { sl with state := .closing })).noteChange b .left).reply .depart tag .ok
          (.sailingState (some .closing))

/-- DEPART (R72). -/
def execDepart (s : State) : Result :=
  takeFrame .depart parseOneByte depart s

end Sys2Proof.Machine
end

