-- ==== Sys2Proof/Machine/Muster.lean ====
section
/-! DEFINITION. Muster: entry, exit, the two commands and the MUSTER line (chapter 9). -/
namespace Sys2Proof.Machine

/-! ### Muster entry (R149 to R152) -/

/-- The decision in progress is abandoned: VERDICT MUSTER, its reservation released, its transaction ended, the engine
idle; a running search completes without a result and its waiting writes are applied (R43, R49, R149). -/
def State.abandonDecision (s : State) : State :=
  match s.engine with
  | none => s
  | some d =>
    let s1 := (s.answerTap d.gate d.tap .muster).releaseSlot
    State.applyWrites { s1.endTx d.gate d.tap with engine := none }

/-- One transaction of a gate at muster entry (R150). The DECIDING one has been abandoned before. -/
def State.musterTx (g : Gate) (s : State) (t : Transaction) : State :=
  match t.state with
  | .pending _ => (s.endTx g t.tap).answerTap g t.tap .muster
  | .awaiting a => s.endNotBoarded g t a .voided
  | .deciding => s

/-- One gate at muster entry: its transactions oldest first (R150). -/
def State.musterGate (s : State) (g : Gate) : State :=
  s.gates[g].list.foldl (State.musterTx g) s

/-- One berth at muster entry (R151). -/
def State.musterBerth (s : State) (b : BerthNo) : State :=
  match s.sailings[b] with
  | none => s
  | some sl =>
    match sl.state with
    | .boarding => s.setSailing b (some { sl with state := .suspended })
    | .closing => s.closeSailing b
    | .suspended => s

/-- Muster entry, taken whole: engine, activation, gates 0 to 15, berths 0 to 3, then the gate modes (R149 to R152). -/
def State.musterEntry (s : State) : State :=
  let s1 := s.abandonDecision.applyActivation
  let s2 := (List.finRange 16).foldl State.musterGate s1
  let s3 := (List.finRange 4).foldl State.musterBerth s2
  State.refreshModes { s3 with service := .muster }

/-! ### Muster exit (R155) -/

/-- A SUSPENDED sailing boards again with its counts as they stood (R76, R155). -/
def Sailing.resumed (sl : Sailing) : Sailing :=
  if sl.state = .suspended then { sl with state := .boarding } else sl

/-- Muster exit (R155). -/
def State.musterExit (s : State) : State :=
  State.refreshModes
    { s with
      service := .inService
      sailings := s.sailings.map fun o => o.map Sailing.resumed }

/-! ### The commands and the line (R147, R148) -/

/-- MUSTER_START carried out (R147, R148). -/
def musterStart (tag : Byte) (s : State) : State :=
  let s1 := { s with commandRequest := true }
  let s2 := if s.service = .inService then s1.musterEntry else s1
  s2.reply .musterStart tag .ok .nothing

/-- MUSTER_START (R147). -/
def execMusterStart (s : State) : Result :=
  takeFrame .musterStart parseNothing (fun tag _ s => musterStart tag s) s

/-- MUSTER_END carried out (R147, R148). -/
def musterEnd (tag : Byte) (s : State) : State :=
  let s1 := { s with commandRequest := false }
  let s2 := if s.service = .muster ∧ s.musterLine = false then s1.musterExit else s1
  s2.reply .musterEnd tag (if s.musterLine then .lineHeld else .ok) .nothing

/-- MUSTER_END (R147). -/
def execMusterEnd (s : State) : Result :=
  takeFrame .musterEnd parseNothing (fun tag _ s => musterEnd tag s) s

/-- MUSTER_LINE_ASSERTED (R148). Outside `running` the line request alone moves (R165, R166). -/
def execMusterLineAsserted (s : State) : Result :=
  if s.musterLine then .next s
  else
    let s1 := { s with musterLine := true }
    if s.phase = .running ∧ s.service = .inService then .next s1.musterEntry else .next s1

/-- MUSTER_LINE_RELEASED (R148). -/
def execMusterLineReleased (s : State) : Result :=
  if s.musterLine then
    let s1 := { s with musterLine := false }
    if s.phase = .running ∧ s.service = .muster ∧ s.commandRequest = false then .next s1.musterExit else .next s1
  else .next s

end Sys2Proof.Machine
end

