-- ==== Sys2Proof/Machine/ServiceControl.lean ====
section
/-! DEFINITION. Service Control: the clock, the parameters, the alert masks, starting and stopping service (chapter 10). -/
namespace Sys2Proof.Machine

/-! ### The clock (R163, R164) -/

/-- One second later; the day wraps after 65,535 (R163). -/
def ServiceTime.next (t : ServiceTime) : ServiceTime :=
  if t.second + 1 < Config.daySeconds then ⟨t.day, t.second + 1⟩ else ⟨(t.day + 1) % Config.dayCount, 0⟩

/-- The clock advances one second; a change of day is a rollover. An unset clock does not advance (R163). -/
def State.secondPasses (s : State) : State :=
  match s.clock with
  | none => s
  | some t =>
    let s1 := { s with clock := some t.next }
    if t.next.day ≠ t.day then s1.rollover else s1

/-- The time base has counted ten tenths towards the next second, and they are used up (R163; log 3). -/
def State.tenTenths (s : State) : State :=
  let s1 := s.timeReaches (s.timeBase + (10 - s.tenths))
  { s1 with tenths := s1.tenths - 10 }

/-- CLOCK_SECOND (R163). The time base and a set clock run in every phase (R163, R166; log 12). -/
def execClockSecond (s : State) : Result :=
  .next s.tenTenths.secondPasses

/-- SET_TIME checked and carried out (R164, R114). -/
def setTime (tag : Byte) (a : SetTimeArgs) (s : State) : State :=
  if Config.daySeconds ≤ a.second.toNat then s.reply .setTime tag .badValue .nothing
  else
    let s1 := { s with clock := some ⟨a.day.toNat, a.second.toNat⟩, tenths := 0 }
    let s2 := match s.clock with
      | some t => if t.day < a.day.toNat then s1.rollover else s1
      | none => s1
    s2.reply .setTime tag .ok .nothing

/-- SET_TIME (R164). -/
def execSetTime (s : State) : Result :=
  takeFrame .setTime parseSetTime setTime s

/-! ### Parameters and masks (R162, R168) -/

/-- A value brought into its range (R162). -/
def clampTo (low high v : Nat) : Nat := max low (min high v)

/-- The six values given, as they stand (R162). -/
def SetParametersArgs.given (a : SetParametersArgs) (d : DefaultAction) : Params where
  passageWindow := a.passageWindow.toNat
  tapWait := a.tapWait.toNat
  overdraft := a.overdraft.toNat
  defaultAction := d
  highMark := a.highMark.toNat
  passback := a.passback.toNat

/-- Six values brought into the ranges of R161. -/
def Params.clamped (p : Params) : Params where
  passageWindow := clampTo 5 300 p.passageWindow
  tapWait := clampTo 5 100 p.tapWait
  overdraft := clampTo 0 2000 p.overdraft
  defaultAction := p.defaultAction
  highMark := clampTo 1 256 p.highMark
  passback := clampTo 0 3600 p.passback

/-- SET_PARAMETERS checked and carried out; the queue high alert is armed or disarmed afresh (R162, R143). -/
def setParameters (tag : Byte) (a : SetParametersArgs) (s : State) : State :=
  if s.service ≠ .config then s.reply .setParameters tag .badState .nothing
  else match defaultActionOf a.defaultAction with
    | none => s.reply .setParameters tag .badValue .nothing
    | some d =>
      let p := (a.given d).clamped
      State.reply { s with params := p, queueHighArmed := decide (s.written.length < p.highMark) } .setParameters tag
        (if p = a.given d then .ok else .clamped) (.params p)

/-- SET_PARAMETERS (R162). -/
def execSetParameters (s : State) : Result :=
  takeFrame .setParameters parseSetParameters setParameters s

/-- The three flags given, when each is masked or unmasked (R168). -/
def SetAlertMaskArgs.masks (a : SetAlertMaskArgs) : Option AlertMasks := do
  let c ← boolOf a.capacityReached
  let q ← boolOf a.queueHigh
  let p ← boolOf a.priorityMatch
  pure ⟨c, q, p⟩

/-- SET_ALERT_MASK checked and carried out (R168). -/
def setAlertMask (tag : Byte) (a : SetAlertMaskArgs) (s : State) : State :=
  match a.masks with
  | none => s.reply .setAlertMask tag .badValue .nothing
  | some m => State.reply { s with masks := m } .setAlertMask tag .ok (.masks m)

/-- SET_ALERT_MASK (R168). -/
def execSetAlertMask (s : State) : Result :=
  takeFrame .setAlertMask parseSetAlertMask setAlertMask s

/-! ### Starting and stopping service (R158 to R160) -/

/-- START_SERVICE checked and carried out (R158, R159, R156). -/
def startService (tag : Byte) (s : State) : State :=
  if s.service ≠ .config then s.reply .startService tag .badState .nothing
  else if s.clock = none then s.reply .startService tag .badState (.missing .clockUnset)
  else if s.ceilings = none then s.reply .startService tag .badState (.missing .limitsUnset)
  else if s.activeBank = none then s.reply .startService tag .badState (.missing .noActiveBank)
  else if s.musterCalled then s.musterEntry.reply .startService tag .ok (.service .muster)
  else (State.refreshModes { s with service := .inService }).reply .startService tag .ok (.service .inService)

/-- START_SERVICE (R158). -/
def execStartService (s : State) : Result :=
  takeFrame .startService parseNothing (fun tag _ s => startService tag s) s

/-- How many berths are not CLOSED (R160). -/
def State.openBerths (s : State) : Nat := (s.sailings.toList.filter Option.isSome).length

/-- How many gates hold a transaction (R160). -/
def State.holdingGates (s : State) : Nat := (s.gates.toList.filter fun c => !c.list.isEmpty).length

/-- STOP_SERVICE checked and carried out (R160). -/
def stopService (tag : Byte) (s : State) : State :=
  if s.service = .config then s.reply .stopService tag .badState .nothing
  else if s.openBerths ≠ 0 ∨ s.holdingGates ≠ 0 then
    s.reply .stopService tag .badState (.stillOpen s.openBerths s.holdingGates)
  else (State.refreshModes { s with service := .config }).reply .stopService tag .ok .nothing

/-- STOP_SERVICE (R160). -/
def execStopService (s : State) : Result :=
  takeFrame .stopService parseNothing (fun tag _ s => stopService tag s) s

end Sys2Proof.Machine
end

