-- ==== Sys2Proof/Machine/Tables.lean ====
section
/-! DEFINITION. The table commands: GATE_CONFIG, the filter list, the fare banks and the pass slots
(R3, R52 to R54, R106, R107, R120 to R127). -/
namespace Sys2Proof.Machine

/-! ### GATE_CONFIG (R3) -/

/-- An ACTIVE gate is disabled: DRAINING while it holds a transaction, else DISABLED (R3). -/
def GateContext.disable (c : GateContext) : GateContext :=
  { c with
    config := { c.config with enabled := false }
    state := if c.list = [] then .disabled else .draining }

/-- A DISABLED gate takes all five settings (R3). -/
def GateContext.configure (c : GateContext) (g : GateSettings) : GateContext :=
  { c with config := g, state := if g.enabled then .active else .disabled }

/-- GATE_CONFIG checked and carried out (R3). -/
def gateConfig (tag : Byte) (a : GateConfigArgs) (s : State) : State :=
  match indexBelow 16 a.gate with
  | none => s.reply .gateConfig tag .badIndex .nothing
  | some g =>
    match gateSettingsOf a with
    | none => s.reply .gateConfig tag .badValue .nothing
    | some v =>
      match s.gates[g].state with
      | .active =>
        if v.enabled then s.reply .gateConfig tag .badState .nothing
        else ((s.setGate g s.gates[g].disable).refreshMode g).reply .gateConfig tag .ok .nothing
      | .draining => s.reply .gateConfig tag .badState .nothing
      | .disabled => ((s.setGate g (s.gates[g].configure v)).refreshMode g).reply .gateConfig tag .ok .nothing

/-- GATE_CONFIG (R3). -/
def execGateConfig (s : State) : Result :=
  takeFrame .gateConfig parseGateConfig gateConfig s

/-! ### LOAD_FILTER (R52 to R54) -/

/-- A filter search is running (R49). -/
def State.searching (s : State) : Bool :=
  match s.engine with
  | some d => decide (d.stage = .searching)
  | none => false

/-- LOAD_FILTER checked, and applied at once or after a running search (R52 to R54). -/
def loadFilter (tag : Byte) (a : LoadFilterArgs) (s : State) : State :=
  match indexBelow 128 a.index with
  | none => s.reply .loadFilter tag .badIndex .nothing
  | some i =>
    match filterEntryOf a with
    | none => s.reply .loadFilter tag .badValue .nothing
    | some e =>
      if s.searching then { s with waitingWrites := s.waitingWrites ++ [⟨tag, i, e⟩] }
      else s.applyWrite ⟨tag, i, e⟩

/-- LOAD_FILTER (R52). -/
def execLoadFilter (s : State) : Result :=
  takeFrame .loadFilter parseLoadFilter loadFilter s

/-! ### Fare table banks (R120 to R127) -/

/-- The contents of an entry, when it is loaded (R117, R127). -/
def Bank.entry (b : Bank) : TableIndex → Option TableEntry
  | .product i => b.products[i].map .product
  | .band i => b.bands[i].map .band
  | .curve i => b.curves[i].map .curve
  | .concession i => b.concessions[i].map .concession

/-- An entry is replaced whole and marked loaded; contents of another table's shape leave the bank alone (R121). -/
def Bank.write (b : Bank) : TableIndex → TableEntry → Bank
  | .product i, .product e => { b with products := b.products.set i (some e) }
  | .band i, .band e => { b with bands := b.bands.set i (some e) }
  | .curve i, .curve e => { b with curves := b.curves.set i (some e) }
  | .concession i, .concession q => { b with concessions := b.concessions.set i (some q) }
  | _, _ => b

/-- A write, with the loaded count raised for an entry that was unloaded (R119, R121). -/
def Bank.load (b : Bank) (i : TableIndex) (e : TableEntry) : Bank :=
  { b.write i e with count := if (b.entry i).isSome then b.count else b.count + 1 }

/-- LOAD_FARE checked and carried out (R120, R121). -/
def loadFare (tag : Byte) (a : LoadFareArgs) (s : State) : State :=
  match bankOf a.bank, tableIndexOf a.table a.index with
  | some n, some i =>
    match entryOf i a.contents with
    | none => s.reply .loadFare tag .badValue .nothing
    | some e =>
      if s.bankHeld n then s.reply .loadFare tag .badState .nothing
      else (s.setBank n ((s.bank n).load i e)).reply .loadFare tag .ok (.count ((s.bank n).load i e).count)
  | _, _ => s.reply .loadFare tag .badIndex .nothing

/-- LOAD_FARE (R120). -/
def execLoadFare (s : State) : Result :=
  takeFrame .loadFare parseLoadFare loadFare s

/-- CLEAR_BANK checked and carried out (R122). -/
def clearBank (tag : Byte) (a : Byte) (s : State) : State :=
  match bankOf a with
  | none => s.reply .clearBank tag .badIndex .nothing
  | some n =>
    if s.bankHeld n then s.reply .clearBank tag .badState .nothing
    else (s.setBank n Bank.empty).reply .clearBank tag .ok (.count 0)

/-- CLEAR_BANK (R122). -/
def execClearBank (s : State) : Result :=
  takeFrame .clearBank parseOneByte clearBank s

/-- ACTIVATE_BANK checked, and applied at once, answered at once, or made to wait (R124 to R126). -/
def activateBank (tag : Byte) (a : ActivateBankArgs) (s : State) : State :=
  match bankOf a.bank with
  | none => s.reply .activateBank tag .badIndex .nothing
  | some n =>
    if s.waitingActivation.isSome then s.reply .activateBank tag .busy .nothing
    else if (s.bank n).count ≠ a.expected.toNat then
      s.reply .activateBank tag .bankMismatch (.count (s.bank n).count)
    else if s.activeBank = some n then s.reply .activateBank tag .ok (.bank n)
    else if s.engineBusy then { s with waitingActivation := some ⟨n, tag⟩ }
    else State.reply { s with activeBank := some n } .activateBank tag .ok (.bank n)

/-- ACTIVATE_BANK (R124). -/
def execActivateBank (s : State) : Result :=
  takeFrame .activateBank parseActivateBank activateBank s

/-- READ_ENTRY checked and answered (R127). -/
def readEntry (tag : Byte) (a : ReadEntryArgs) (s : State) : State :=
  match bankOf a.bank, tableIndexOf a.table a.index with
  | some n, some i => s.reply .readEntry tag .ok (.entry ((s.bank n).entry i))
  | _, _ => s.reply .readEntry tag .badIndex .nothing

/-- READ_ENTRY (R127). -/
def execReadEntry (s : State) : Result :=
  takeFrame .readEntry parseReadEntry readEntry s

/-! ### Pass slots (R106, R107) -/

/-- LOAD_SLOT checked and carried out (R106). -/
def loadSlot (tag : Byte) (a : LoadSlotArgs) (s : State) : State :=
  match indexBelow 64 a.slot with
  | none => s.reply .loadSlot tag .badIndex .nothing
  | some k =>
    if a.media = 0 then s.reply .loadSlot tag .badValue .nothing
    else if a.limit.toNat = 0 ∨ 15 < a.limit.toNat then s.reply .loadSlot tag .badValue .nothing
    else if s.slotBusy k then s.reply .loadSlot tag .slotBusy .nothing
    else (s.setSlot k (some ⟨a.media, a.limit.toNat, 0, false, none⟩)).reply .loadSlot tag .ok .nothing

/-- LOAD_SLOT (R106). -/
def execLoadSlot (s : State) : Result :=
  takeFrame .loadSlot parseLoadSlot loadSlot s

/-- CLEAR_SLOT checked and carried out (R107). -/
def clearSlot (tag : Byte) (a : Byte) (s : State) : State :=
  match indexBelow 64 a with
  | none => s.reply .clearSlot tag .badIndex .nothing
  | some k =>
    if s.slotBusy k then s.reply .clearSlot tag .slotBusy .nothing
    else (s.setSlot k none).reply .clearSlot tag .ok .nothing

/-- CLEAR_SLOT (R107). -/
def execClearSlot (s : State) : Result :=
  takeFrame .clearSlot parseOneByte clearSlot s

end Sys2Proof.Machine
end

