-- ==== Sys2Proof/Machine/GateLanes.lean ====
section
/-! DEFINITION. The gate lanes: TAP, PASSAGE, the two timers, and the lane transmitters (chapter 1). -/
namespace Sys2Proof.Machine

/-- A bad frame is discarded and counted (R24). -/
def State.badFrame (s : State) (g : Gate) : State :=
  s.setGate g { s.gates[g] with badFrames := satAdd 255 s.gates[g].badFrames 1 }

/-- A stray report is discarded and counted (R23). -/
def State.strayReport (s : State) (g : Gate) : State :=
  s.setGate g { s.gates[g] with strays := satAdd 255 s.gates[g].strays 1 }

/-- The immediate answer to a TAP, by the first row of R11 that applies; none on row 6. -/
def tapAnswer (service : ServiceState) (c : GateContext) (tap : TapNumber) : Option VerdictOutcome :=
  match service with
  | .config => some .notInService
  | .muster => some .muster
  | .inService =>
    if c.state ≠ .active then some .gateClosed
    else if (findTap c.list tap).isSome then some .busy
    else if c.config.lane.places ≤ c.list.length then some .busy
    else none

/-- The PENDING transaction a TAP makes (R12). -/
def newTransaction (s : State) (t : TapFrame) : Transaction where
  tap := t.tap
  card := t.card
  arrival := s.timeBase
  state := .pending ⟨s.timeBase, s.params.tapWait⟩

/-- A TAP frame that has passed the frame checks (R11, R12). -/
def State.tapArrives (s : State) (g : Gate) (t : TapFrame) : State :=
  match tapAnswer s.service s.gates[g] t.tap with
  | some o => s.answerTap g t.tap o
  | none => s.setGate g { s.gates[g] with list := s.gates[g].list ++ [newTransaction s t] }

/-- The awaiting transaction a PASSAGE report matches (R18). -/
def matchingAwaiting (l : List Transaction) (tap : TapNumber) : Option (Transaction × Awaiting) :=
  (findTap l tap).bind fun t => t.awaiting?.map fun a => (t, a)

/-- A PASSAGE report that has passed the frame checks (R18 to R20, R23). -/
def State.passageArrives (s : State) (g : Gate) (tap : TapNumber) (r : PassageResult) : State :=
  match matchingAwaiting s.gates[g].list tap, r with
  | some (t, a), .passed => (s.endBoarded g t a).atBerthOf g State.closeIfEmpty
  | some (t, a), .turnedBack => (s.endNotBoarded g t a .notBoarded).atBerthOf g State.closeIfEmpty
  | some (t, a), .writeFailed => (s.endNotBoarded g t a .writeFailed).atBerthOf g State.closeIfEmpty
  | some _, .unknown => s.strayReport g
  | none, _ => s.strayReport g

/-- A frame that has ended on lane g (R24). -/
def State.laneEvent (g : Gate) (s : State) (ev : RxEvent) : State :=
  match laneFrame ev with
  | .bad => s.badFrame g
  | .tap t => s.tapArrives g t
  | .passage tap r => s.passageArrives g tap r

/-- Bytes arrive on lane g: the receiver takes them, and each frame they end is handled in order (R181, R24). -/
def State.laneBytes (s : State) (g : Gate) (bytes : List Byte) : State :=
  (s.laneRx[g].run bytes).2.foldl (State.laneEvent g)
    { s with laneRx := s.laneRx.set g (s.laneRx[g].run bytes).1 }

/-- TAP (R11). Outside `running` arriving frames are discarded (R165, R166). -/
def execTap (lane : Gate) (bytes : List Byte) (s : State) : Result :=
  if s.phase = .running then .next (s.laneBytes lane bytes) else .next s

/-- PASSAGE (R18). What arrives is told apart by its class byte, as for TAP (log 4). -/
def execPassage (lane : Gate) (bytes : List Byte) (s : State) : Result :=
  if s.phase = .running then .next (s.laneBytes lane bytes) else .next s

/-- The PENDING transaction with this tap number, with its tap wait timer. -/
def waitingTap (l : List Transaction) (tap : TapNumber) : Option (Transaction × Timer) :=
  (findTap l tap).bind fun t =>
    match t.state with
    | .pending w => some (t, w)
    | _ => none

/-- TAP_WAIT_EXPIRY (R14): the transaction is removed and answered RETRY, at the end of its tap wait (log 3). -/
def execTapWaitExpiry (gate : Gate) (tap : TapNumber) (s : State) : Result :=
  match waitingTap s.gates[gate].list tap with
  | some (_, w) =>
    if s.phase = .running then
      .next (((s.timeReaches w.deadline).endTx gate tap).answerTap gate tap .retry)
    else .next s
  | none => .next s

/-- PASSAGE_WINDOW_EXPIRY (R22): the transaction ends as not boarded, at the end of its window. The resolution time is the
clock as it stands: seconds that the tenths brought forward make up are taken by later CLOCK_SECOND commands, so where those
are queued behind the expiry the resolution time lags them (R163; log 3). -/
def execPassageWindowExpiry (gate : Gate) (tap : TapNumber) (s : State) : Result :=
  match matchingAwaiting s.gates[gate].list tap with
  | some (t, a) =>
    if s.phase = .running then
      .next (((s.timeReaches a.window.deadline).endNotBoarded gate t a .timedOut).atBerthOf gate State.closeIfEmpty)
    else .next s
  | none => .next s

/-- Frames still leave the links: the part is out of reset, or a RESET waits for them to leave (R165, R166). -/
def State.sends (s : State) : Bool :=
  match s.phase with
  | .running => true
  | .resetTaken => true
  | _ => false

/-- LANE_FRAME_SENT (R8): the oldest frame produced on the lane leaves it. -/
def execLaneFrameSent (lane : Gate) (s : State) : Result :=
  match s.laneOut[lane] with
  | [] => .next s
  | f :: rest =>
    if s.sends then
      .next { s with
        laneOut := s.laneOut.set lane rest
        laneTx := s.laneTx.set lane (gateFrameBytes f) }
    else .next s

end Sys2Proof.Machine
end

