-- ==== Sys2Proof/Machine/Uplink.lean ====
section
/-! DEFINITION. The Uplink Port: frames arriving, unknown commands, STATUS and the transmitter (chapter 11). -/
namespace Sys2Proof.Machine

/-- A frame that has ended on the uplink: it joins the receive list, or is discarded silently when it fails the arrival
checks or the list is full (R169, R170). -/
def State.uplinkEvent (s : State) (ev : RxEvent) : State :=
  match uplinkFrame ev with
  | none => s
  | some f =>
    if s.receiveList.length < Config.receiveCapacity then { s with receiveList := s.receiveList ++ [f] } else s

/-- Bytes arrive on the uplink (R181, R169). -/
def State.uplinkBytes (s : State) (bytes : List Byte) : State :=
  (s.uplinkRx.run bytes).2.foldl State.uplinkEvent { s with uplinkRx := (s.uplinkRx.run bytes).1 }

/-- MGMT_FRAME_ARRIVAL (R169). Outside `running` arriving frames are discarded (R165, R166). -/
def execMgmtFrameArrival (bytes : List Byte) (s : State) : Result :=
  if s.phase = .running then .next (s.uplinkBytes bytes) else .next s

/-- UNKNOWN_COMMAND (R169): the frame at the front names no command; code and tag are echoed. -/
def execUnknownCommand (s : State) : Result :=
  match s.receiveList with
  | [] => .next s
  | f :: rest =>
    if s.canTake ∧ knownCode f.code = false then
      .next (State.produce { s with receiveList := rest } [.reply f.code f.tag .unknownCommand .nothing])
    else .next s

/-- UPLINK_FRAME_SENT (R173): the frame at the front of the outgoing list leaves. -/
def execUplinkFrameSent (s : State) : Result :=
  match s.outgoing with
  | [] => .next s
  | f :: rest => if s.sends then .next { s with outgoing := rest, uplinkTx := uplinkFrameBytes f } else .next s

/-! ### STATUS (R175 to R178) -/

/-- The PART section (R176). -/
def State.partSection (s : State) : PartSection where
  service := s.service
  lineRequest := s.musterLine
  commandRequest := s.commandRequest
  resetCause := s.resetCause
  clock := s.clock
  ceilings := s.ceilings
  activeBank := s.activeBank
  countA := s.bankA.count
  countB := s.bankB.count
  waiting := s.waitingActivation.map (·.bank)
  written := s.written.length
  reserved := s.reserved
  nextSeq := s.nextSeq
  lastPriority := s.lastPriority

/-- The state of a transaction as STATUS names it (R177). -/
def Transaction.stateName (t : Transaction) : TxStateName :=
  match t.state with
  | .pending _ => .pending
  | .deciding => .deciding
  | .awaiting _ => .awaitingPassage

/-- One gate's report (R177). -/
def GateContext.report (c : GateContext) : GateReport where
  state := c.state
  transactions := c.list.map Transaction.stateName
  badFrames := c.badFrames
  strays := c.strays

/-- A gate's two counts are cleared (R25). -/
def State.clearCounts (s : State) (g : Gate) : State :=
  s.setGate g { s.gates[g] with badFrames := 0, strays := 0 }

/-- The run of three REPLY frames of a STATUS: one reading of every block (R175). -/
def State.statusRun (s : State) (tag : Byte) : List UplinkFrame :=
  [.reply Command.status.code tag .ok (.part s.partSection),
    .reply Command.status.code tag .ok (.gates (s.gates.toList.map GateContext.report)),
    .reply Command.status.code tag .ok (.berths s.sailings.toList)]

/-- STATUS checked and answered; a named gate's counts are cleared once they are read (R175, R25). -/
def statusCommand (tag : Byte) (a : Option Byte) (s : State) : State :=
  match a with
  | none => s.produce (s.statusRun tag)
  | some b =>
    match indexBelow 16 b with
    | none => s.reply .status tag .badIndex .nothing
    | some g => (s.produce (s.statusRun tag)).clearCounts g

/-- STATUS (R175). -/
def execStatus (s : State) : Result :=
  takeFrame .status parseStatus statusCommand s

end Sys2Proof.Machine
end

