-- ==== Sys2Proof/Machine/Dispatch.lean ====
section
/-! DEFINITION. One arm for each command, in the order of spec/opcode_table.json. -/
namespace Sys2Proof.Machine

def exec (i : Instr) (s : State) : Host.Outcome State Fault Refusal :=
  match i with
  | .tap lane bytes => Sys2Proof.Machine.execTap lane bytes s
  | .passage lane bytes => Sys2Proof.Machine.execPassage lane bytes s
  | .tapWaitExpiry gate tap => Sys2Proof.Machine.execTapWaitExpiry gate tap s
  | .passageWindowExpiry gate tap => Sys2Proof.Machine.execPassageWindowExpiry gate tap s
  | .grant => Sys2Proof.Machine.execGrant s
  | .sailingStage => Sys2Proof.Machine.execSailingStage s
  | .cardDataStage => Sys2Proof.Machine.execCardDataStage s
  | .filterSearch => Sys2Proof.Machine.execFilterSearch s
  | .filterSearchComplete => Sys2Proof.Machine.execFilterSearchComplete s
  | .productStage => Sys2Proof.Machine.execProductStage s
  | .capacityStage => Sys2Proof.Machine.execCapacityStage s
  | .productKindStage => Sys2Proof.Machine.execProductKindStage s
  | .fareStage => Sys2Proof.Machine.execFareStage s
  | .verdict => Sys2Proof.Machine.execVerdict s
  | .mgmtFrameArrival bytes => Sys2Proof.Machine.execMgmtFrameArrival bytes s
  | .unknownCommand => Sys2Proof.Machine.execUnknownCommand s
  | .setTime => Sys2Proof.Machine.execSetTime s
  | .setLimits => Sys2Proof.Machine.execSetLimits s
  | .setParameters => Sys2Proof.Machine.execSetParameters s
  | .setAlertMask => Sys2Proof.Machine.execSetAlertMask s
  | .gateConfig => Sys2Proof.Machine.execGateConfig s
  | .loadFilter => Sys2Proof.Machine.execLoadFilter s
  | .loadFare => Sys2Proof.Machine.execLoadFare s
  | .clearBank => Sys2Proof.Machine.execClearBank s
  | .activateBank => Sys2Proof.Machine.execActivateBank s
  | .readEntry => Sys2Proof.Machine.execReadEntry s
  | .loadSlot => Sys2Proof.Machine.execLoadSlot s
  | .clearSlot => Sys2Proof.Machine.execClearSlot s
  | .openSailing => Sys2Proof.Machine.execOpenSailing s
  | .depart => Sys2Proof.Machine.execDepart s
  | .musterStart => Sys2Proof.Machine.execMusterStart s
  | .musterEnd => Sys2Proof.Machine.execMusterEnd s
  | .startService => Sys2Proof.Machine.execStartService s
  | .stopService => Sys2Proof.Machine.execStopService s
  | .fetchRecords => Sys2Proof.Machine.execFetchRecords s
  | .ackRecords => Sys2Proof.Machine.execAckRecords s
  | .status => Sys2Proof.Machine.execStatus s
  | .reset => Sys2Proof.Machine.execReset s
  | .uplinkFrameSent => Sys2Proof.Machine.execUplinkFrameSent s
  | .laneFrameSent lane => Sys2Proof.Machine.execLaneFrameSent lane s
  | .commandResetBegin => Sys2Proof.Machine.execCommandResetBegin s
  | .commandResetEnd => Sys2Proof.Machine.execCommandResetEnd s
  | .powerUp => Sys2Proof.Machine.execPowerUp s
  | .powerUpComplete => Sys2Proof.Machine.execPowerUpComplete s
  | .resetLineAsserted => Sys2Proof.Machine.execResetLineAsserted s
  | .resetLineReleased => Sys2Proof.Machine.execResetLineReleased s
  | .musterLineAsserted => Sys2Proof.Machine.execMusterLineAsserted s
  | .musterLineReleased => Sys2Proof.Machine.execMusterLineReleased s
  | .clockSecond => Sys2Proof.Machine.execClockSecond s

end Sys2Proof.Machine
end

