-- ==== Sys2Proof/Safety.lean ====
section
/-! DEFINITION. What counts as a safe run: the laws the manual states of the whole part, and the conditions under which
a management command or a stage comes about. -/
namespace Sys2Proof.Machine

/-! ### When a command comes about -/

/-- A MGMT frame with this command's code, this tag and these arguments stands at the front of the receive list and can
be taken (R170). -/
def State.offers (s : State) (c : Command) (tag : Byte) (args : List Byte) (rest : List MgmtFrame) : Prop :=
  s.phase = .running ∧ s.receiveList = ⟨c.code, tag, args⟩ :: rest ∧
    s.outgoing.length + s.waitingWrites.length + (if s.waitingActivation.isSome then 1 else 0) ≤ 47

/-- The decision in progress has come to this stage, and this is its transaction (R31). -/
def State.deciding (s : State) (st : Stage) (d : Decision) (t : Transaction) : Prop :=
  s.phase = .running ∧ s.engine = some d ∧ d.stage = st ∧ findTap s.gates[d.gate].list d.tap = some t

/-! ### Counting transactions -/

/-- Every transaction of the part with its gate. -/
def State.transactions (s : State) : List (Gate × Transaction) :=
  (List.finRange 16).flatMap fun g => s.gates[g].list.map fun t => (g, t)

/-- Transactions in DECIDING or AWAITING_PASSAGE (R136). -/
def State.granted (s : State) : Nat := s.transactions.countP fun p => !p.2.isPending

/-- Sailings that are not CLOSED (R136). -/
def State.openSailings (s : State) : Nat := s.sailings.toList.countP Option.isSome

/-- Passenger transactions in AWAITING_PASSAGE at gates assigned to berth b (R67). -/
def State.passengersAt (s : State) (b : BerthNo) : Nat :=
  s.transactions.countP fun p =>
    decide (s.gates[p.1].config.berth = some b ∧ p.2.awaiting?.map (·.place) = some .passenger)

/-- Transactions that carry pass slot k (R110). -/
def State.carriersOf (s : State) (k : SlotNo) : Nat :=
  s.transactions.countP fun p => decide (p.2.awaiting?.bind (·.slot) = some k)

/-! ### Laws that hold of each step by themselves -/

/-- Each gate's mode last sent is its computed mode (R6). -/
abbrev ModesAgree (s : State) : Prop :=
  ∀ g : Gate, s.gates[g].modeSent = some (computedMode s.service s.gates[g].state)

/-- Both lists of the uplink are within their sizes, with room for every owed reply (R170, R173). -/
abbrev RoomForReplies (s : State) : Prop :=
  s.outgoing.length + s.waitingWrites.length + (if s.waitingActivation.isSome then 1 else 0) ≤ 64
    ∧ s.receiveList.length ≤ 8

/-- The i-th held record is numbered as many before the next sequence number as there are records from it on (R134). -/
abbrev NumbersRun (s : State) : Prop :=
  ∀ i : Fin s.written.length, (s.written[i]).seq + BitVec.ofNat 16 (s.written.length - i.val) = s.nextSeq

/-- Entries of a bank that are loaded (R117). -/
def Bank.loadedEntries (b : Bank) : Nat :=
  b.products.toList.countP Option.isSome + b.bands.toList.countP Option.isSome
    + b.curves.toList.countP Option.isSome + b.concessions.toList.countP Option.isSome

/-- The loaded counts count the loaded entries (R117, R119). -/
abbrev CountsLoaded (s : State) : Prop :=
  s.bankA.count = s.bankA.loadedEntries ∧ s.bankB.count = s.bankB.loadedEntries

/-- A service time is in range (R163). -/
abbrev ServiceTime.inRange (t : ServiceTime) : Prop := t.day < 65536 ∧ t.second < 86400

/-- Six parameters are in the ranges of R161. -/
abbrev Params.inRange (p : Params) : Prop :=
  5 ≤ p.passageWindow ∧ p.passageWindow ≤ 300 ∧ 5 ≤ p.tapWait ∧ p.tapWait ≤ 100 ∧ p.overdraft ≤ 2000
    ∧ 1 ≤ p.highMark ∧ p.highMark ≤ 256 ∧ p.passback ≤ 3600

/-- Clock, parameters, ceilings and saturating counts are in range (R1, R60, R61, R161, R163). -/
abbrev ValuesInRange (s : State) : Prop :=
  (∀ t ∈ s.clock, t.inRange) ∧ s.params.inRange
    ∧ (∀ tops ∈ s.ceilings, ∀ b : BerthNo, 1 ≤ tops[b] ∧ tops[b] ≤ 999)
    ∧ (∀ g : Gate, s.gates[g].badFrames ≤ 255 ∧ s.gates[g].strays ≤ 255)
    ∧ (∀ b : BerthNo, ∀ sl ∈ s.sailings[b], sl.crew ≤ 255 ∧ sl.refused ≤ 65535 ∧ sl.revenue ≤ 4294967295)

/-- Filter writes wait on a running search alone, and an activation on a decision alone (R54, R126). -/
abbrev WaitersHaveCause (s : State) : Prop :=
  (s.waitingWrites ≠ [] → s.searching = true) ∧ (s.waitingActivation.isSome = true → s.engine.isSome = true)

/-! ### Transactions and reservations (R4, R10, R27, R136, R137) -/

/-- A gate context is well kept: distinct tap numbers, no more transactions than its lane kind allows, ACTIVE exactly
when enabled, and none held while DISABLED (R4, R10). -/
abbrev GateContext.kept (c : GateContext) : Prop :=
  (c.list.map (·.tap)).Nodup ∧ c.list.length ≤ c.config.lane.places
    ∧ (c.config.enabled = true ↔ c.state = .active) ∧ (c.state = .disabled → c.list = [])

/-- The DECIDING transaction is the one of the decision in progress, and that decision has one (R27). -/
abbrev OneDeciding (s : State) : Prop :=
  (∀ p ∈ s.transactions, p.2.state = .deciding → s.engine.map (fun d => (d.gate, d.tap)) = some (p.1, p.2.tap))
    ∧ ∀ d ∈ s.engine, (findTap s.gates[d.gate].list d.tap).map (·.state) = some .deciding

/-- Every reserved slot stands for a granted transaction or an open sailing, and written records plus reserved slots
never exceed 256 (R136, R137). -/
abbrev SlotsReserved (s : State) : Prop :=
  s.reserved = s.granted + s.openSailings ∧ s.written.length + s.reserved ≤ 256

/-- Transactions, the decision in progress and the reservations agree. -/
abbrev Accounted (s : State) : Prop :=
  (∀ g : Gate, (s.gates[g]).kept) ∧ OneDeciding s ∧ SlotsReserved s

/-! ### Service state and places (R63, R66, R67, R157, R163) -/

/-- What each service state rules out: no transaction outside IN_SERVICE, no sailing in CONFIG, no SUSPENDED sailing
outside MUSTER; and what service requires: clock, ceilings and active bank (R150, R157, R158). -/
abbrev ServiceFits (s : State) : Prop :=
  (s.service ≠ .inService → s.transactions = [])
    ∧ (s.service = .config → ∀ b : BerthNo, s.sailings[b] = none)
    ∧ (∀ b : BerthNo, ∀ sl ∈ s.sailings[b], sl.state = .suspended → s.service = .muster)
    ∧ (s.service ≠ .config → s.clock.isSome = true ∧ s.ceilings.isSome = true ∧ s.activeBank.isSome = true)

/-- A berth's sailing: its held count is the number of its awaiting passengers, boarded plus held is within its capacity,
the capacity within the ceiling, and a CLOSING sailing holds a place (R63, R66, R67). -/
abbrev BerthKept (s : State) (b : BerthNo) : Prop :=
  s.passengersAt b = (match s.sailings[b] with | some sl => sl.held | none => 0)
    ∧ ∀ sl ∈ s.sailings[b],
      sl.boarded + sl.held ≤ sl.capacity ∧ 1 ≤ sl.capacity
        ∧ (∀ tops ∈ s.ceilings, sl.capacity ≤ tops[b])
        ∧ (sl.state = .closing → 0 < sl.held)

/-- A stage that comes after stage 1. -/
def Stage.afterSailing (st : Stage) : Bool := decide (st ≠ .sailing)

/-- A stage that comes after stage 5 on the way of a passenger. -/
def Stage.afterCapacity (st : Stage) : Bool :=
  match st with
  | .productKind => true
  | .fare => true
  | .verdict => true
  | _ => false

/-- The sailing found is still its berth's, is BOARDING and, past stage 5, has room for a passenger (R36, R39). -/
abbrev StillBoarding (s : State) (d : Decision) (f : SailingFound) : Prop :=
  ∃ sl ∈ s.sailings[f.berth], sl.state = .boarding ∧ sl.id = f.id
    ∧ (d.crew = false ∧ d.stage.afterCapacity = true → sl.boarded + sl.held < sl.capacity)

/-- What the decision in progress has found, while no stage has refused: its gate's berth, a sailing that is BOARDING
unless the sailing change says otherwise, and once past stage 5 room on it; one that reaches stage 8 without an occupancy
has lost its sailing on the way (R31, R32, R36, R39, R73). -/
abbrev DecisionKept (s : State) (d : Decision) : Prop :=
  (∀ f ∈ d.found, s.gates[d.gate].config.berth = some f.berth)
    ∧ (d.stage = .sailing → d.found = none ∧ d.crew = false ∧ d.refusal = none)
    ∧ (d.refusal.isSome = true → d.stage = .verdict)
    ∧ (d.crew = true → d.stage = .verdict)
    ∧ (d.refusal = none ∧ d.stage.afterSailing = true → d.found.isSome = true)
    ∧ (d.refusal = none ∧ d.crew = false ∧ d.stage.afterCapacity = true →
        d.occupancy.isSome = true ∨ (d.stage = .verdict ∧ d.change ≠ .unchanged))
    ∧ (d.refusal = none ∧ d.change = .unchanged → ∀ f ∈ d.found, StillBoarding s d f)

/-- Places and service state agree. -/
abbrev PlacesKept (s : State) : Prop :=
  ServiceFits s ∧ (∀ b : BerthNo, BerthKept s b) ∧ ∀ d ∈ s.engine, DecisionKept s d

/-! ### Pass slots (R104, R105, R110) -/

/-- A filled slot: limit 1 to 15, uses within it, and a use counted while in flight (R104, R112). -/
abbrev PassSlot.kept (p : PassSlot) : Prop :=
  1 ≤ p.limit ∧ p.limit ≤ 15 ∧ p.uses ≤ p.limit ∧ (p.inFlight = true → 1 ≤ p.uses)

/-- What the bound slot of the decision in progress is: bound by stage 3 at the earliest, dropped by a refusal, never that
of a priority card, kept past stage 4 for a CAPPED_PASS alone, and past stage 6 ready for one more use unless the decision has
come to stage 8 with its sailing lost (R34, R35, R73, R110). -/
abbrev BindingKept (s : State) (d : Decision) : Prop :=
  (d.stage = .sailing ∨ d.stage = .cardData ∨ d.stage = .filter ∨ d.stage = .searching → d.slot = none)
    ∧ (d.refusal.isSome = true → d.slot = none) ∧ (d.crew = true → d.slot = none ∧ d.stage = .verdict)
    ∧ (d.stage = .capacity ∨ d.stage = .productKind → d.slot.isSome = true → d.kind = some .cappedPass)
    ∧ (d.stage = .fare ∨ (d.stage = .verdict ∧ d.change = .unchanged) →
        ∀ k ∈ d.slot, ∃ p ∈ s.slots[k], p.inFlight = false ∧ p.uses < p.limit)

/-- Uses never exceed the limit, and a slot in flight is carried by exactly one transaction (R110). -/
abbrev UsesKept (s : State) : Prop :=
  (∀ k : SlotNo, ∀ p ∈ s.slots[k], p.kept)
    ∧ (∀ k : SlotNo, s.carriersOf k = (if (s.slots[k].map (·.inFlight)) = some true then 1 else 0))
    ∧ ∀ d ∈ s.engine, BindingKept s d

end Sys2Proof.Machine
end

