-- ==== Sys2Proof/Certificates/Slice0/Obligations.lean ====
section
/-! DEFINITION. The statements for the provers. The namespace Sys2Proof.Claims holds the manual's tables and effects that
several statements speak of, written from the rules and not from the meanings. -/

namespace Sys2Proof.Claims
open Sys2Proof.Machine

/-! ### Answers and alerts -/

/-- A command answered as it is taken: its frame leaves the receive list and its REPLY joins the outgoing list (R171, R173). -/
def answered (s : State) (rest : List MgmtFrame) (c : Command) (tag : Byte) (r : ReplyResult) (d : ReplyData) : State :=
  { s with receiveList := rest, outgoing := s.outgoing ++ [.reply c.code tag r d] }

/-- An alert joins the outgoing list unless it is masked or the list has no unpromised room (R168, R174). -/
def alerted (s : State) (masked : Bool) (a : Alert) : State :=
  { s with
    outgoing :=
      if masked = true ∨ 64 ≤ s.outgoing.length + s.waitingWrites.length + (if s.waitingActivation.isSome then 1 else 0)
      then s.outgoing else s.outgoing ++ [.alert a] }

/-- One slot is reserved, and QUEUE_HIGH raised when that brings the total to the high mark while armed (R136, R142). -/
def reserved (s : State) : State :=
  if s.written.length + (s.reserved + 1) = s.params.highMark ∧ s.queueHighArmed = true then
    alerted { s with reserved := s.reserved + 1, queueHighArmed := false } s.masks.queueHigh
      (.queueHigh s.written.length (s.reserved + 1) (s.written.head?.map (·.seq)))
  else { s with reserved := s.reserved + 1 }

/-! ### Gate modes (R6) -/

/-- The table of R6. -/
def modeFor : ServiceState → GateState → GateMode
  | .muster, _ => .freeEgress
  | .inService, .active => .normal
  | _, _ => .closed

/-- Every gate's mode worked out again: a GATE_MODE frame on each lane whose mode last sent differs (R6). -/
def modesSent (s : State) : State :=
  { s with
    gates := s.gates.map fun c => { c with modeSent := some (modeFor s.service c.state) }
    laneOut := Vector.ofFn fun g : Fin 16 =>
      s.laneOut[g] ++
        (if s.gates[g].modeSent = some (modeFor s.service s.gates[g].state) then []
         else [.gateMode (modeFor s.service s.gates[g].state)]) }

/-- One gate takes new settings and a new state, and its mode is worked out again (R3, R6). -/
def reconfigured (s : State) (g : Gate) (v : GateSettings) (st : GateState) : State :=
  { s with
    gates := s.gates.set g { s.gates[g] with config := v, state := st, modeSent := some (modeFor s.service st) }
    laneOut := s.laneOut.set g (s.laneOut[g] ++
      (if s.gates[g].modeSent = some (modeFor s.service st) then [] else [.gateMode (modeFor s.service st)])) }

/-! ### Records and endings (R21, R75, R77, R132, R134, R135) -/

/-- A record is written into its reserved slot with the next sequence number (R134, R135). -/
def recorded (s : State) (b : RecordBody) : State :=
  { s with written := s.written ++ [⟨s.nextSeq, b⟩], nextSeq := s.nextSeq + 1, reserved := s.reserved - 1 }

/-- The fields of a tap record (R132). -/
def tapFields (kind : TapKind) (gate : Gate) (berth : Option BerthNo) (tap : TapNumber) (card : CardData) (v : Verdict)
    (resolution : ServiceTime) : TapRecord where
  kind := kind
  gate := gate
  berth := berth
  sailing := v.sailing
  tap := tap
  media := card.media
  product := card.product
  concession := card.concession
  filterIndex := v.filterIndex
  reason := v.reason
  crew := v.crew
  inspect := v.inspect
  bank := v.bank
  fareValue := v.fareValue
  credit := v.credit
  charged := v.charged
  newBalance := v.newBalance
  verdictTime := v.time
  resolutionTime := resolution

/-- The fields of a sailing's summary (R77). -/
def summaryFields (b : BerthNo) (sl : Sailing) (closing : ServiceTime) : SummaryRecord where
  sailing := sl.id
  berth := b
  line := sl.line
  capacity := sl.capacity
  boarded := sl.boarded
  crew := sl.crew
  refused := sl.refused
  revenue := sl.revenue
  openingTime := sl.openingTime
  closingTime := closing

/-- The transaction with this tap number leaves gate g's list; a DRAINING gate left empty becomes DISABLED (R21). -/
def ended (s : State) (g : Gate) (tap : TapNumber) : State :=
  let l := s.gates[g].list.eraseP fun u => decide (u.tap = tap)
  { s with
    gates := s.gates.set g
      { s.gates[g] with
        list := l
        state := if s.gates[g].state = .draining ∧ l = [] then .disabled else s.gates[g].state } }

/-- The sailing of gate g's berth, when there is one, is changed. -/
def onSailingOf (s : State) (g : Gate) (f : Sailing → Sailing) : State :=
  { s with
    sailings := match s.gates[g].config.berth with
      | some b => s.sailings.set b (s.sailings[b].map f)
      | none => s.sailings }

/-- The pass slot a transaction carries, when it carries one, is changed. -/
def onSlot (s : State) (k : Option SlotNo) (f : PassSlot → PassSlot) : State :=
  { s with
    slots := match k with
      | some k => s.slots.set k (s.slots[k].map f)
      | none => s.slots }

/-- Berth b's sailing closes: summary, crew markers, empty berth; a decision that had found it learns of it (R31, R75). -/
def closed (s : State) (b : BerthNo) (sl : Sailing) (now : ServiceTime) : State :=
  { recorded s (.summary (summaryFields b sl now)) with
    gates := s.gates.map fun c =>
      if c.config.berth = some b then
        { c with list := c.list.map fun t => match t.state with
            | .awaiting a => { t with state := .awaiting { a with place := if a.place = .crew then .nothing else a.place } }
            | _ => t }
      else c
    sailings := s.sailings.set b none
    engine := s.engine.map fun d => if d.found.map (·.berth) = some b then { d with change := .closed } else d }

/-- A CLOSING sailing of gate g's berth that holds no place closes (R74). -/
def closedIfEmpty (s : State) (g : Gate) (now : ServiceTime) : State :=
  match s.gates[g].config.berth with
  | none => s
  | some b =>
    match s.sailings[b] with
    | none => s
    | some sl => if sl.state = .closing ∧ sl.held = 0 then closed s b sl now else s

/-- An awaiting transaction ends as a boarding at time `now` (R19, R111). -/
def boarded (s : State) (g : Gate) (t : Transaction) (a : Awaiting) (now : ServiceTime) : State :=
  let s1 := onSailingOf s g fun sl => match a.place with
    | .passenger => { sl with
        held := sl.held - 1
        boarded := sl.boarded + 1
        revenue := min 4294967295 (sl.revenue + a.verdict.charged) }
    | .crew => { sl with crew := min 255 (sl.crew + 1) }
    | .nothing => sl
  let s2 := onSlot s1 a.slot fun p => { p with inFlight := false, lastUse := some now }
  ended (recorded s2 (.tap (tapFields .boarded g s.gates[g].config.berth t.tap t.card a.verdict now))) g t.tap

/-- An awaiting transaction ends without a boarding (R20, R22, R78, R112). -/
def notBoarded (s : State) (g : Gate) (t : Transaction) (a : Awaiting) (kind : TapKind) (now : ServiceTime) : State :=
  let s1 := onSailingOf s g fun sl => match a.place with
    | .passenger => { sl with
        held := sl.held - 1
        alertArmed := decide (sl.boarded + (sl.held - 1) < sl.capacity) || sl.alertArmed }
    | _ => sl
  let s2 := onSlot s1 a.slot fun p => { p with uses := p.uses - 1, inFlight := false }
  ended (recorded s2 (.tap (tapFields kind g s.gates[g].config.berth t.tap t.card a.verdict now))) g t.tap

/-- The waiting activation is applied and answered once the engine is idle (R125, R126). -/
def engineIdle (s : State) : State :=
  match s.waitingActivation with
  | none => { s with engine := none }
  | some w =>
    { s with
      engine := none
      activeBank := some w.bank
      waitingActivation := none
      outgoing := s.outgoing ++ [.reply Command.activateBank.code w.tag .ok (.bank w.bank)] }

/-! ### Resets (R165) -/

/-- What a reset drops as it begins (R26, R27, R55, R81, R115, R129, R145, R179; log 14). -/
def dropped (s : State) (p : Phase) : State :=
  { s with
    phase := p
    gates := s.gates.map fun c => { c with list := [] }
    laneOut := Vector.replicate 16 []
    engine := none
    waitingWrites := []
    waitingActivation := none
    slots := s.slots.map fun o => o.map fun q => { q with inFlight := false }
    sailings := Vector.replicate 4 none
    reserved := 0
    receiveList := []
    outgoing := [] }

/-- The part out of a POWER reset, beside what no rule gives a reset value for (log 5). -/
def outOfPower (s : State) : State :=
  { State.reset with
    pending := s.pending
    laneTx := s.laneTx
    uplinkTx := s.uplinkTx
    musterLine := s.musterLine
    timeBase := s.timeBase
    tenths := s.tenths
    freeCount := s.freeCount }

/-- The day rollover (R113). -/
def rolledOver (slots : Vector (Option PassSlot) 64) : Vector (Option PassSlot) 64 :=
  slots.map fun o => o.map fun p => { p with uses := if p.inFlight then 1 else 0 }

/-! ### The filter (R46 to R49) -/

/-- The media number passes the test of the kind (R46); MASKED bit by bit. -/
def NumberPasses (kind : FilterKind) (first second m : Media) : Prop :=
  match kind with
  | .range => first.toNat ≤ m.toNat ∧ m.toNat ≤ second.toNat
  | .pair => m = first ∨ m = second
  | .masked => ∀ i : Fin 48, second.getLsbD i.val = true → m.getLsbD i.val = first.getLsbD i.val

/-- An entry matches a card when it is enabled and both its tests pass (R48). -/
def EntryMatches (entry : Option FilterRule) (m : Media) (issuer : Byte) : Prop :=
  ∃ r, entry = some r ∧ NumberPasses r.kind r.first r.second m ∧ (r.issuer = none ∨ r.issuer = some issuer)

/-- Where the search ends (R49). -/
def SearchEndsAt (filters : Vector (Option FilterRule) 128) (m : Media) (issuer : Byte) :
    Option (FilterIndex × FilterRule) → Prop
  | some (i, r) => filters[i] = some r ∧ EntryMatches (some r) m issuer ∧ ∀ j, j < i → ¬ EntryMatches filters[j] m issuer
  | none => ∀ j : FilterIndex, ¬ EntryMatches filters[j] m issuer

/-! ### Commands of which no word is taken outside `running` (R165, R166) -/

/-- Commands by which the part takes a frame, an expiry, a grant, a stage or a management command. -/
def takesEvent : Instr → Bool
  | .uplinkFrameSent => false
  | .laneFrameSent _ => false
  | .commandResetBegin => false
  | .commandResetEnd => false
  | .powerUp => false
  | .powerUpComplete => false
  | .resetLineAsserted => false
  | .resetLineReleased => false
  | .musterLineAsserted => false
  | .musterLineReleased => false
  | .clockSecond => false
  | _ => true

/-! ### The grant (R28, R29) -/

/-- The transaction is eligible for a grant (R28). -/
def Eligible (s : State) (g : Gate) (t : Transaction) : Prop :=
  t ∈ s.gates[g].list ∧ t.isPending = true ∧ s.gates[g].state = .active ∧ s.service = .inService ∧ s.engine = none
    ∧ s.waitingActivation = none ∧ s.written.length + s.reserved < 256

/-- How late a gate comes in the rotation that starts after the last-granted gate (R29). -/
def turn (s : State) (g : Gate) : Nat := (g.val + 15 - s.lastGranted.val) % 16

/-! ### Pricing (R84 to R96), one formula a line -/

/-- The curve factor (R86 to R88): the highest-numbered point whose source the index has reached, then slope and clamp. -/
def factorAt (e : Option CurveEntry) (o : Nat) : Nat :=
  match e with
  | none => 256
  | some e =>
    if e.point3.source ≤ o then min 511 (e.point3.value + (o - e.point3.source) * e.point3.slope / 256)
    else if e.point2.source ≤ o then min 511 (e.point2.value + (o - e.point2.source) * e.point2.slope / 256)
    else if e.point1.source ≤ o then min 511 (e.point1.value + (o - e.point1.source) * e.point1.slope / 256)
    else min 511 (e.value0 + o * e.slope0 / 256)

/-- The fare value of a tap (R84, R87, R89 to R93). -/
def fareOf (band : BandEntry) (curve : Option CurveEntry) (factor : Option Nat) (n c : Nat) : Nat :=
  let o := 256 * n / c
  let adjusted := (band.base * factorAt curve o + 128) / 256
  let q := factor.getD 256
  let concession := (adjusted * q + 128) / 256
  if q = 0 then 0
  else if concession < band.floor then band.floor
  else if band.ceiling < concession then band.ceiling
  else concession

/-- Elapsed seconds since a service time (R95, R109). -/
def secondsSince (now last : ServiceTime) : Int :=
  ((now.day : Int) - last.day) * 86400 + ((now.second : Int) - last.second)

/-- The transfer credit of a stored-value card (R94). -/
def creditOf (band : BandEntry) (line : LineCode) (last : Option LastBoarding) (now : ServiceTime) : Nat :=
  match last with
  | none => 0
  | some b =>
    let e := secondsSince now ⟨b.day.toNat, b.second.toNat⟩
    if b.line.toNat ≠ line.val ∧ band.window ≠ 0 ∧ 0 ≤ e ∧ e ≤ band.window * 60 then min b.farePaid.toNat band.cap else 0

end Sys2Proof.Claims

open Sys2Proof Sys2Proof.Machine Sys2Proof.Claims

/-! ### The queue of commands -/

/-- A step takes the command at the front of the queue, and with none waiting counts one tenth of a second (log 3). -/
def Obligations.StepTakesFrontCommand : Prop :=
  (∀ (c : Instr) (rest : List Instr) (s : State), s.pending = c :: rest → step s = exec c { s with pending := rest })
    ∧ ∀ s : State, s.pending = [] → step s = .next { s with timeBase := s.timeBase + 1, tenths := s.tenths + 1 }

/-- No command faults, is refused by the model, or touches the queue. -/
def Obligations.EveryCommandAnswersNextState : Prop :=
  ∀ (c : Instr) (s : State), ∃ t, exec c s = .next t ∧ t.pending = s.pending

/-! ### Resets and time -/

/-- R165 and the reset rules of the blocks: out of a POWER reset the part is State.reset, and out of a LINE reset the same
but for the records, their numbering and the cause. The model's reading where one reset turns into another (logs 8, 9). -/
def Obligations.PowerAndLineResetGiveResetValues : Prop :=
  ∀ s : State,
    (∀ b, s.phase = .powerReset b → s.resetLine = false → exec .powerUpComplete s = .next (outOfPower s))
    ∧ (∀ b, s.phase = .powerReset b → s.resetLine = true → exec .powerUpComplete s = .next { s with phase := .powerReset true })
    ∧ (s.phase = .powerReset true → s.resetLine = true → exec .resetLineReleased s = .next (outOfPower s))
    ∧ (s.phase = .powerReset false → s.resetLine = true → exec .resetLineReleased s = .next { s with resetLine := false })
    ∧ (s.phase = .lineReset → s.resetLine = true →
        exec .resetLineReleased s = .next { outOfPower s with
          written := s.written
          nextSeq := s.nextSeq
          queueHighArmed := decide (s.written.length < 224)
          resetCause := .line })

/-- R165 with R26, R59, R81, R115, R129, R145, R156, R161, R163, R168: what a COMMAND reset keeps and what it sets. The time
base it comes out at, with the tenths counted on the way, is the model's choice (log 3). -/
def Obligations.CommandResetKeepsTables : Prop :=
  ∀ (s : State) (t : Nat), s.phase = .commandReset t →
    exec .commandResetEnd s = .next
      { s with
        phase := .running
        resetCause := .command
        service := .config
        timeBase := max s.timeBase (t + 1)
        tenths := s.tenths + (t + 1 - s.timeBase)
        gates := s.gates.map fun c => ⟨c.config, if c.config.enabled then .active else .disabled, [], some .closed, 0, 0⟩
        laneRx := Vector.replicate 16 .hunting
        laneOut := Vector.replicate 16 [.gateMode .closed]
        uplinkRx := .hunting
        lastGranted := 15
        engine := none
        waitingWrites := []
        waitingActivation := none
        slots := s.slots.map fun o => o.map fun p => { p with inFlight := false }
        sailings := Vector.replicate 4 none
        reserved := 0
        queueHighArmed := decide (s.written.length < s.params.highMark)
        receiveList := []
        outgoing := [] }

/-- R165, R166 and the blocks' reset rules: RESET is answered OK in every service state and the part then takes nothing
more; its reset begins only once every frame has left; each kind of reset drops the work in hand as it begins (log 14).
That any assertion of the RESET line during another reset makes it a LINE reset is the model's reading (log 8). -/
def Obligations.ResetsBeginAndDropWork : Prop :=
  ∀ s : State,
    (∀ (tag : Byte) (rest : List MgmtFrame), s.offers .reset tag [] rest →
      exec .reset s = .next { answered s rest .reset tag .ok .nothing with phase := .resetTaken })
    ∧ (s.phase = .resetTaken → s.outgoing = [] → (∀ g : Gate, s.laneOut[g] = []) →
        exec .commandResetBegin s = .next (dropped s (.commandReset s.timeBase)))
    ∧ (s.phase = .resetTaken → (s.outgoing ≠ [] ∨ ∃ g : Gate, s.laneOut[g] ≠ []) →
        exec .commandResetBegin s = .next s)
    ∧ exec .powerUp s = .next (dropped s (.powerReset false))
    ∧ (s.resetLine = false → exec .resetLineAsserted s = .next { dropped s .lineReset with resetLine := true })

/-- R165, R166: from the taking of a RESET until the part is out of reset, frames and events are not taken and the
MUSTER line moves the line request alone; in reset no frame is sent either. Of internal events not due: log 2. -/
def Obligations.PartInResetTakesNothing : Prop :=
  ∀ s : State, s.phase ≠ .running →
    (∀ c : Instr, takesEvent c = true → exec c s = .next s)
    ∧ exec .musterLineAsserted s = .next { s with musterLine := true }
    ∧ exec .musterLineReleased s = .next { s with musterLine := false }
    ∧ (s.phase ≠ .resetTaken →
        exec .uplinkFrameSent s = .next s ∧ ∀ g : Gate, exec (.laneFrameSent g) s = .next s)

/-- R163, R113: a set clock advances one second for ten tenths, rolls over the day after second 86,399 and the slots with
it; an unset clock stands. In every phase (log 12). -/
def Obligations.ClockSecondAdvancesClock : Prop :=
  ∀ s : State,
    let s1 := { s with timeBase := s.timeBase + (10 - s.tenths), tenths := s.tenths - 10 }
    (s.clock = none → exec .clockSecond s = .next s1)
    ∧ (∀ d n, s.clock = some ⟨d, n⟩ → n < 86399 → exec .clockSecond s = .next { s1 with clock := some ⟨d, n + 1⟩ })
    ∧ (∀ d, d < 65535 → s.clock = some ⟨d, 86399⟩ →
        exec .clockSecond s = .next { s1 with clock := some ⟨d + 1, 0⟩, slots := rolledOver s.slots })
    ∧ (s.clock = some ⟨65535, 86399⟩ →
        exec .clockSecond s = .next { s1 with clock := some ⟨0, 0⟩, slots := rolledOver s.slots })

/-- R164, R114: SET_TIME. -/
def Obligations.SetTimeSetsClock : Prop :=
  ∀ (s : State) (tag : Byte) (rest : List MgmtFrame) (a : SetTimeArgs), s.offers .setTime tag a.bytes rest →
    exec .setTime s = .next
      (if 86400 ≤ a.second.toNat then answered s rest .setTime tag .badValue .nothing
       else
        { answered s rest .setTime tag .ok .nothing with
          clock := some ⟨a.day.toNat, a.second.toNat⟩
          tenths := 0
          slots := match s.clock with
            | some t => if t.day < a.day.toNat then rolledOver s.slots else s.slots
            | none => s.slots })

/-! ### Service Control -/

/-- R61: SET_LIMITS by its table. That BAD_STATE comes before ALREADY_SET outside CONFIG, against R62's "as elsewhere", is the
model's reading (log 29). -/
def Obligations.SetLimitsByTable : Prop :=
  ∀ (s : State) (tag : Byte) (rest : List MgmtFrame) (a : SetLimitsArgs), s.offers .setLimits tag a.bytes rest →
    exec .setLimits s = .next
      (if s.service ≠ .config then answered s rest .setLimits tag .badState .nothing
       else if s.ceilings ≠ none then answered s rest .setLimits tag .alreadySet .nothing
       else if ∃ c ∈ [a.berth0, a.berth1, a.berth2, a.berth3], c.toNat = 0 ∨ 999 < c.toNat then
        answered s rest .setLimits tag .badValue .nothing
       else
        { answered s rest .setLimits tag .ok .nothing with
          ceilings := some #v[a.berth0.toNat, a.berth1.toNat, a.berth2.toNat, a.berth3.toNat] })

/-- R162, R161, R143: SET_PARAMETERS clamps six values and arms the queue high alert afresh. -/
def Obligations.SetParametersClampsAndApplies : Prop :=
  ∀ (s : State) (tag : Byte) (rest : List MgmtFrame) (a : SetParametersArgs), s.offers .setParameters tag a.bytes rest →
    exec .setParameters s = .next
      (if s.service ≠ .config then answered s rest .setParameters tag .badState .nothing
       else if a.defaultAction ≠ 0 ∧ a.defaultAction ≠ 1 then answered s rest .setParameters tag .badValue .nothing
       else
        let p : Params :=
          { passageWindow := max 5 (min 300 a.passageWindow.toNat)
            tapWait := max 5 (min 100 a.tapWait.toNat)
            overdraft := min 2000 a.overdraft.toNat
            defaultAction := if a.defaultAction = 0 then .accept else .refuse
            highMark := max 1 (min 256 a.highMark.toNat)
            passback := min 3600 a.passback.toNat }
        let stood := p.passageWindow = a.passageWindow.toNat ∧ p.tapWait = a.tapWait.toNat
          ∧ p.overdraft = a.overdraft.toNat ∧ p.highMark = a.highMark.toNat ∧ p.passback = a.passback.toNat
        { answered s rest .setParameters tag (if stood then .ok else .clamped) (.params p) with
          params := p
          queueHighArmed := decide (s.written.length < p.highMark) })

/-- R168: SET_ALERT_MASK sets all three flags or none. -/
def Obligations.SetAlertMaskSetsThreeFlags : Prop :=
  ∀ (s : State) (tag : Byte) (rest : List MgmtFrame) (a : SetAlertMaskArgs), s.offers .setAlertMask tag a.bytes rest →
    exec .setAlertMask s = .next
      (if 1 < a.capacityReached.toNat ∨ 1 < a.queueHigh.toNat ∨ 1 < a.priorityMatch.toNat then
        answered s rest .setAlertMask tag .badValue .nothing
       else
        let m : AlertMasks := ⟨decide (a.capacityReached = 1), decide (a.queueHigh = 1), decide (a.priorityMatch = 1)⟩
        { answered s rest .setAlertMask tag .ok (.masks m) with masks := m })

/-- R158, R159, R156: START_SERVICE by its table, to IN_SERVICE or, from a CONFIG that holds no work, to MUSTER. -/
def Obligations.StartServiceByTable : Prop :=
  ∀ (s : State) (tag : Byte) (rest : List MgmtFrame), s.offers .startService tag [] rest →
    (s.service ≠ .config → exec .startService s = .next (answered s rest .startService tag .badState .nothing))
    ∧ (s.service = .config → s.clock = none →
        exec .startService s = .next (answered s rest .startService tag .badState (.missing .clockUnset)))
    ∧ (s.service = .config → s.clock ≠ none → s.ceilings = none →
        exec .startService s = .next (answered s rest .startService tag .badState (.missing .limitsUnset)))
    ∧ (s.service = .config → s.clock ≠ none → s.ceilings ≠ none → s.activeBank = none →
        exec .startService s = .next (answered s rest .startService tag .badState (.missing .noActiveBank)))
    ∧ (s.service = .config → s.clock ≠ none → s.ceilings ≠ none → s.activeBank ≠ none →
        s.musterLine = false → s.commandRequest = false →
        exec .startService s =
          .next (answered (modesSent { s with service := .inService }) rest .startService tag .ok (.service .inService)))
    ∧ (s.service = .config → s.clock ≠ none → s.ceilings ≠ none → s.activeBank ≠ none →
        (s.musterLine = true ∨ s.commandRequest = true) →
        s.engine = none → s.waitingActivation = none → (∀ g : Gate, s.gates[g].list = []) →
        (∀ b : BerthNo, s.sailings[b] = none) →
        exec .startService s =
          .next (answered (modesSent { s with service := .muster }) rest .startService tag .ok (.service .muster)))

/-- R160: STOP_SERVICE by its table. -/
def Obligations.StopServiceByTable : Prop :=
  ∀ (s : State) (tag : Byte) (rest : List MgmtFrame), s.offers .stopService tag [] rest →
    let berths := s.sailings.toList.countP (·.isSome)
    let gates := s.gates.toList.countP fun c => !c.list.isEmpty
    exec .stopService s = .next
      (if s.service = .config then answered s rest .stopService tag .badState .nothing
       else if berths ≠ 0 ∨ gates ≠ 0 then answered s rest .stopService tag .badState (.stillOpen berths gates)
       else answered (modesSent { s with service := .config }) rest .stopService tag .ok .nothing)

/-! ### Muster -/

/-- R147, R148, R155, R156: a request that becomes clear leaves MUSTER when it was the last one, and one that becomes active
outside IN_SERVICE is remembered and moves nothing else. -/
def Obligations.MusterRequestsOutsideEntry : Prop :=
  let left (s : State) : State := modesSent { s with
    service := .inService
    sailings := s.sailings.map fun o => o.map fun sl => if sl.state = .suspended then { sl with state := .boarding } else sl }
  (∀ (s : State) (tag : Byte) (rest : List MgmtFrame), s.offers .musterEnd tag [] rest →
    exec .musterEnd s = .next
      (if s.musterLine = true then
        { answered s rest .musterEnd tag .lineHeld .nothing with commandRequest := false }
       else if s.service = .muster then
        answered (left { s with commandRequest := false }) rest .musterEnd tag .ok .nothing
       else { answered s rest .musterEnd tag .ok .nothing with commandRequest := false }))
  ∧ (∀ s : State, s.phase = .running → s.musterLine = true →
    exec .musterLineReleased s = .next
      (if s.service = .muster ∧ s.commandRequest = false then left { s with musterLine := false }
       else { s with musterLine := false }))
  ∧ (∀ s : State, s.phase = .running → s.service ≠ .inService →
    exec .musterLineAsserted s = .next { s with musterLine := true })
  ∧ ∀ (s : State) (tag : Byte) (rest : List MgmtFrame), s.service ≠ .inService → s.offers .musterStart tag [] rest →
    exec .musterStart s = .next { answered s rest .musterStart tag .ok .nothing with commandRequest := true }

namespace Sys2Proof.Claims
open Sys2Proof.Machine

/-- The record bodies of a muster entry: VOIDED gate by gate, then the summaries berth by berth (R150, R151). -/
def musterBodies (s : State) (now : ServiceTime) : List RecordBody :=
  (s.transactions.filterMap fun p => p.2.awaiting?.map fun a =>
      RecordBody.tap (tapFields .voided p.1 s.gates[p.1].config.berth p.2.tap p.2.card a.verdict now))
    ++ (List.finRange 4).filterMap fun b => match s.sailings[b] with
      | some sl => if sl.state = .closing then some (.summary (summaryFields b sl now)) else none
      | none => none

/-- Bodies with the sequence numbers they are given, from `n` on (R134). -/
def numbered (n : SeqNumber) : List RecordBody → List Record
  | [] => []
  | b :: bs => ⟨n, b⟩ :: numbered (n + 1) bs

/-- The VERDICT MUSTER frames a gate is sent: its DECIDING transaction, then its PENDING ones oldest first (R149, R150). -/
def musterAnswers (c : GateContext) : List GateFrame :=
  ((c.list.filter fun t => decide (t.state = .deciding)) ++ c.list.filter Transaction.isPending).map fun t =>
    .verdict t.tap .muster none 0 none false

/-- The uplink frames a muster entry produces: waiting writes, then the waiting activation (R147, R149). -/
def musterReplies (s : State) : List UplinkFrame :=
  (s.waitingWrites.map fun w => UplinkFrame.reply Command.loadFilter.code w.tag .ok .nothing)
    ++ match s.waitingActivation with
      | some w => [.reply Command.activateBank.code w.tag .ok (.bank w.bank)]
      | none => []

/-- What muster entry makes of state `s` (R43, R149 to R152). -/
def musterEntered (s : State) (now : ServiceTime) : State :=
  { s with
    service := .muster
    engine := none
    waitingWrites := []
    waitingActivation := none
    filters := s.waitingWrites.foldl (fun fs w => fs.set w.index w.entry) s.filters
    activeBank := match s.waitingActivation with | some w => some w.bank | none => s.activeBank
    outgoing := s.outgoing ++ musterReplies s
    gates := s.gates.map fun c =>
      { c with
        list := []
        state := if c.state = .draining ∧ c.list ≠ [] then .disabled else c.state
        modeSent := some .freeEgress }
    laneOut := Vector.ofFn fun g : Fin 16 => s.laneOut[g] ++ musterAnswers s.gates[g]
      ++ (if s.gates[g].modeSent = some .freeEgress then [] else [.gateMode .freeEgress])
    slots := s.slots.map fun o => o.map fun p => if p.inFlight then { p with uses := p.uses - 1, inFlight := false } else p
    sailings := s.sailings.map fun o => o.bind fun sl =>
      if sl.state = .closing then none
      else some { sl with state := .suspended, held := 0, alertArmed := sl.alertArmed || decide (0 < sl.held) }
    written := s.written ++ numbered s.nextSeq (musterBodies s now)
    nextSeq := s.nextSeq + BitVec.ofNat 16 (musterBodies s now).length
    reserved := s.sailings.toList.countP fun o => decide (o.map (·.state) = some .boarding)
    queueHighArmed := s.queueHighArmed
      || (s.engine.isSome && decide (s.written.length + (s.reserved - 1) < s.params.highMark)) }

end Sys2Proof.Claims

/-- R147 to R152: a request that becomes active in IN_SERVICE takes muster entry whole, from every state that keeps the
laws of the part. -/
def Obligations.MusterEntryTakenWhole : Prop :=
  ∀ (s : State) (now : ServiceTime), s.phase = .running → s.service = .inService → s.clock = some now →
    Accounted s → PlacesKept s → UsesKept s → WaitersHaveCause s →
    (s.musterLine = false → exec .musterLineAsserted s = .next (musterEntered { s with musterLine := true } now))
    ∧ ∀ (tag : Byte) (rest : List MgmtFrame), s.offers .musterStart tag [] rest →
      exec .musterStart s =
        .next (answered (musterEntered { s with commandRequest := true } now) rest .musterStart tag .ok .nothing)

/-! ### Tables: gates, filter, banks, slots -/

/-- R3, R6: GATE_CONFIG by its table. -/
def Obligations.GateConfigByTable : Prop :=
  ∀ (s : State) (tag : Byte) (rest : List MgmtFrame) (a : GateConfigArgs), s.offers .gateConfig tag a.bytes rest →
    (15 < a.gate.toNat → exec .gateConfig s = .next (answered s rest .gateConfig tag .badIndex .nothing))
    ∧ ∀ g : Gate, a.gate.toNat = g.val →
      (1 < a.enabled.toNat ∨ (3 < a.berth.toNat ∧ a.berth ≠ 255) ∨ 3 < a.priority.toNat ∨ 1 < a.counting.toNat
          ∨ 1 < a.lane.toNat →
        exec .gateConfig s = .next (answered s rest .gateConfig tag .badValue .nothing))
      ∧ ∀ v : GateSettings, v.enabled = decide (a.enabled = 1) → a.enabled.toNat ≤ 1 →
          (v.berth = none ∧ a.berth = 255 ∨ v.berth.map (·.val) = some a.berth.toNat) → a.priority.toNat = v.priority.val →
          a.counting = (if v.counting = .confirmed then 0 else 1) → a.lane = (if v.lane = .standard then 0 else 1) →
        exec .gateConfig s = .next
          (match s.gates[g].state with
            | .active =>
              if v.enabled then answered s rest .gateConfig tag .badState .nothing
              else answered (reconfigured s g { s.gates[g].config with enabled := false }
                (if s.gates[g].list = [] then .disabled else .draining)) rest .gateConfig tag .ok .nothing
            | .draining => answered s rest .gateConfig tag .badState .nothing
            | .disabled => answered (reconfigured s g v (if v.enabled then .active else .disabled)) rest .gateConfig tag .ok
                .nothing)

namespace Sys2Proof.Claims
open Sys2Proof.Machine

/-- The checks of R52 that a LOAD_FILTER's values must pass, DISABLED apart. -/
def filterValuesOk (a : LoadFilterArgs) : Bool :=
  decide (a.action.toNat ≤ 5 ∧ a.kind.toNat ≤ 2 ∧ (a.kind ≠ 2 → a.first ≠ 0 ∧ a.second ≠ 0)
    ∧ (a.kind = 0 → a.first.toNat ≤ a.second.toNat) ∧ (a.action = 5 → a.slot.toNat ≤ 63))

/-- The entry as written: the codes of an enabled entry name these values (R45, R183). -/
def entryWritten (a : LoadFilterArgs) : Option FilterRule :=
  if a.action = 0 then none
  else some
    { action :=
        if a.action = 1 then .accept else if a.action = 2 then .inspect else if a.action = 3 then .refuse
        else if a.action = 4 then .priority else .slot (Fin.ofNat 64 a.slot.toNat)
      kind := if a.kind = 0 then .range else if a.kind = 1 then .pair else .masked
      first := a.first
      second := a.second
      issuer := if a.issuer = 255 then none else some a.issuer }

end Sys2Proof.Claims

/-- R52 to R54: LOAD_FILTER is refused, applied at once, or waits while a search runs. -/
def Obligations.LoadFilterByTable : Prop :=
  ∀ (s : State) (tag : Byte) (rest : List MgmtFrame) (a : LoadFilterArgs), s.offers .loadFilter tag a.bytes rest →
    (127 < a.index.toNat → exec .loadFilter s = .next (answered s rest .loadFilter tag .badIndex .nothing))
    ∧ ∀ i : FilterIndex, a.index.toNat = i.val →
      exec .loadFilter s = .next
        (if a.action ≠ 0 ∧ filterValuesOk a = false then answered s rest .loadFilter tag .badValue .nothing
         else if s.engine.map (·.stage) = some .searching then
          { s with receiveList := rest, waitingWrites := s.waitingWrites ++ [⟨tag, i, entryWritten a⟩] }
         else { answered s rest .loadFilter tag .ok .nothing with filters := s.filters.set i (entryWritten a) })

namespace Sys2Proof.Claims
open Sys2Proof.Machine

/-- The bank is active or named by the waiting activation (R120, R122). -/
def Held (s : State) (n : BankName) : Prop := s.activeBank = some n ∨ s.waitingActivation.map (·.bank) = some n

/-- Bank n replaced. -/
def withBank (s : State) (n : BankName) (b : Bank) : State :=
  match n with
  | .bankA => { s with bankA := b }
  | .bankB => { s with bankB := b }

/-- The code of a bank (R183). -/
def bankCode : BankName → Byte
  | .bankA => 0
  | .bankB => 1

/-- The table code and the entry index of an entry (R117, R183). -/
def tableCode : TableIndex → Byte × Nat
  | .product i => (0, i.val)
  | .band i => (1, i.val)
  | .curve i => (2, i.val)
  | .concession i => (3, i.val)

/-- The entry of a bank, when loaded (R117). -/
def entryAt (b : Bank) : TableIndex → Option TableEntry
  | .product i => b.products[i].map .product
  | .band i => b.bands[i].map .band
  | .curve i => b.curves[i].map .curve
  | .concession i => b.concessions[i].map .concession

/-- The ranges of R118 for an entry of one of the four tables. -/
def entryInRange : TableEntry → Prop
  | .product _ => True
  | .band e => e.base ≤ 9999 ∧ e.floor ≤ e.ceiling ∧ e.ceiling ≤ 9999 ∧ e.window ≤ 180 ∧ e.cap ≤ 9999
  | .curve e => e.value0 ≤ 511 ∧ e.slope0 ≤ 2047
      ∧ (∀ p ∈ [e.point1, e.point2, e.point3], p.source ≤ 256 ∧ p.value ≤ 511 ∧ p.slope ≤ 2047)
      ∧ e.point1.source ≤ e.point2.source ∧ e.point2.source ≤ e.point3.source
  | .concession q => q ≤ 256

/-- An entry of this table. -/
def shapeFits : TableIndex → TableEntry → Prop
  | .product _, .product _ => True
  | .band _, .band _ => True
  | .curve _, .curve _ => True
  | .concession _, .concession _ => True
  | _, _ => False

/-- The table names no entry of a bank: unknown table, or an index beyond it (R120). -/
def noSuchEntry (table index : Byte) : Prop := ∀ i : TableIndex, tableCode i ≠ (table, index.toNat)

end Sys2Proof.Claims

/-- R120, R121, R119: LOAD_FARE writes an entry in range into a bank that is not held, and counts it when it was unloaded. -/
def Obligations.LoadFareWritesFreeBank : Prop :=
  ∀ (s : State) (tag : Byte) (rest : List MgmtFrame) (a : LoadFareArgs), a.contents.length = 22 →
    s.offers .loadFare tag a.bytes rest →
    ((1 < a.bank.toNat ∨ noSuchEntry a.table a.index) →
      exec .loadFare s = .next (answered s rest .loadFare tag .badIndex .nothing))
    ∧ ∀ (n : BankName) (i : TableIndex), a.bank = bankCode n → tableCode i = (a.table, a.index.toNat) →
      ((∀ e, shapeFits i e → entryInRange e → (entryBytes e).isPrefixOf a.contents = false) →
        exec .loadFare s = .next (answered s rest .loadFare tag .badValue .nothing))
      ∧ ∀ e, shapeFits i e → entryInRange e → (entryBytes e).isPrefixOf a.contents = true →
        (Held s n → exec .loadFare s = .next (answered s rest .loadFare tag .badState .nothing))
        ∧ (¬ Held s n → ∃ b : Bank,
            exec .loadFare s = .next (withBank (answered s rest .loadFare tag .ok (.count b.count)) n b)
            ∧ (∀ j, entryAt b j = if j = i then some e else entryAt (s.bank n) j)
            ∧ b.count = (s.bank n).count + (if entryAt (s.bank n) i = none then 1 else 0))

/-- R122: CLEAR_BANK. -/
def Obligations.ClearBankUnloadsFreeBank : Prop :=
  ∀ (s : State) (tag : Byte) (rest : List MgmtFrame) (a : Byte), s.offers .clearBank tag [a] rest →
    (1 < a.toNat → exec .clearBank s = .next (answered s rest .clearBank tag .badIndex .nothing))
    ∧ ∀ n : BankName, a = bankCode n →
      (Held s n → exec .clearBank s = .next (answered s rest .clearBank tag .badState .nothing))
      ∧ (¬ Held s n → ∃ b : Bank, exec .clearBank s = .next (withBank (answered s rest .clearBank tag .ok (.count 0)) n b)
          ∧ (∀ i, entryAt b i = none) ∧ b.count = 0)

/-- R124 to R126: ACTIVATE_BANK by its rows. -/
def Obligations.ActivateBankByTable : Prop :=
  ∀ (s : State) (tag : Byte) (rest : List MgmtFrame) (a : ActivateBankArgs), s.offers .activateBank tag a.bytes rest →
    (1 < a.bank.toNat → exec .activateBank s = .next (answered s rest .activateBank tag .badIndex .nothing))
    ∧ ∀ n : BankName, a.bank = bankCode n →
      exec .activateBank s = .next
        (if s.waitingActivation ≠ none then answered s rest .activateBank tag .busy .nothing
         else if (s.bank n).count ≠ a.expected.toNat then
          answered s rest .activateBank tag .bankMismatch (.count (s.bank n).count)
         else if s.activeBank = some n then answered s rest .activateBank tag .ok (.bank n)
         else if s.engine = none then { answered s rest .activateBank tag .ok (.bank n) with activeBank := some n }
         else { s with receiveList := rest, waitingActivation := some ⟨n, tag⟩ })

/-- R127: READ_ENTRY returns the entry as it stands and changes nothing. -/
def Obligations.ReadEntryReturnsEntry : Prop :=
  ∀ (s : State) (tag : Byte) (rest : List MgmtFrame) (a : ReadEntryArgs), s.offers .readEntry tag a.bytes rest →
    ((1 < a.bank.toNat ∨ noSuchEntry a.table a.index) →
      exec .readEntry s = .next (answered s rest .readEntry tag .badIndex .nothing))
    ∧ ∀ (n : BankName) (i : TableIndex), a.bank = bankCode n → tableCode i = (a.table, a.index.toNat) →
      exec .readEntry s = .next (answered s rest .readEntry tag .ok (.entry (entryAt (s.bank n) i)))

namespace Sys2Proof.Claims
open Sys2Proof.Machine

/-- A slot is busy: in flight, or the bound slot of the decision in progress (R105). -/
def Busy (s : State) (k : SlotNo) : Prop :=
  s.slots[k].map (·.inFlight) = some true ∨ s.engine.bind (·.slot) = some k

end Sys2Proof.Claims

/-- R106, R105: LOAD_SLOT by its table. -/
def Obligations.LoadSlotByTable : Prop :=
  ∀ (s : State) (tag : Byte) (rest : List MgmtFrame) (a : LoadSlotArgs), s.offers .loadSlot tag a.bytes rest →
    (63 < a.slot.toNat → exec .loadSlot s = .next (answered s rest .loadSlot tag .badIndex .nothing))
    ∧ ∀ k : SlotNo, a.slot.toNat = k.val →
      (a.media = 0 ∨ a.limit.toNat = 0 ∨ 15 < a.limit.toNat →
        exec .loadSlot s = .next (answered s rest .loadSlot tag .badValue .nothing))
      ∧ (a.media ≠ 0 → 1 ≤ a.limit.toNat → a.limit.toNat ≤ 15 → Busy s k →
        exec .loadSlot s = .next (answered s rest .loadSlot tag .slotBusy .nothing))
      ∧ (a.media ≠ 0 → 1 ≤ a.limit.toNat → a.limit.toNat ≤ 15 → ¬ Busy s k →
        exec .loadSlot s = .next
          { answered s rest .loadSlot tag .ok .nothing with
            slots := s.slots.set k (some ⟨a.media, a.limit.toNat, 0, false, none⟩) })

/-- R107: CLEAR_SLOT, with the refusal at stage 6 of a capped pass that passes its other checks and whose slot is empty. That
the refusal ends the binding in its own step is the model's reading (log 10). -/
def Obligations.ClearSlotEmptiesFreeSlot : Prop :=
  (∀ (s : State) (tag : Byte) (rest : List MgmtFrame) (a : Byte), s.offers .clearSlot tag [a] rest →
    (63 < a.toNat → exec .clearSlot s = .next (answered s rest .clearSlot tag .badIndex .nothing))
    ∧ ∀ k : SlotNo, a.toNat = k.val →
      (Busy s k → exec .clearSlot s = .next (answered s rest .clearSlot tag .slotBusy .nothing))
      ∧ (¬ Busy s k → exec .clearSlot s = .next
          { answered s rest .clearSlot tag .ok .nothing with slots := s.slots.set k none }))
  ∧ ∀ (s : State) (d : Decision) (t : Transaction) (k : SlotNo) (f : SailingFound) (e : ProductEntry) (x : BitVec 16),
    s.deciding .productKind d t → d.kind = some .cappedPass → d.slot = some k → s.slots[k] = none →
    d.found = some f → ((s.bank d.bank).products[t.card.product.toNat]?).join = some e → e.lines.getLsbD f.line.val = true →
    t.card.passExpiry = some x → d.time.day ≤ x.toNat →
    exec .productKindStage s = .next
      { s with engine := some { d with refusal := some .slotMismatch, stage := .verdict, slot := none } }

/-! ### Sailings -/

/-- R64, R65, R78: OPEN_SAILING by its table. That a QUEUE_HIGH precedes the REPLY is the model's reading (log 23). -/
def Obligations.OpenSailingByTable : Prop :=
  ∀ (s : State) (tag : Byte) (rest : List MgmtFrame) (a : OpenSailingArgs), s.offers .openSailing tag a.bytes rest →
    (3 < a.berth.toNat → exec .openSailing s = .next (answered s rest .openSailing tag .badIndex .nothing))
    ∧ ∀ b : BerthNo, a.berth.toNat = b.val →
      (s.service ≠ .inService ∨ s.sailings[b] ≠ none →
        exec .openSailing s = .next (answered s rest .openSailing tag .badState .nothing))
      ∧ (s.service = .inService → s.sailings[b] = none →
          (31 < a.line.toNat ∨ a.capacity.toNat = 0 ∨ 9999 < a.capacity.toNat) →
        exec .openSailing s = .next (answered s rest .openSailing tag .badValue .nothing))
      ∧ ∀ line : LineCode, a.line.toNat = line.val → s.service = .inService → s.sailings[b] = none →
          1 ≤ a.capacity.toNat → a.capacity.toNat ≤ 9999 →
        let band := s.activeBank.bind fun n => (s.bank n).bands[line]
        (band = none → exec .openSailing s = .next (answered s rest .openSailing tag .badValue .nothing))
        ∧ (band ≠ none → 256 ≤ s.written.length + s.reserved →
          exec .openSailing s = .next (answered s rest .openSailing tag .queueFull .nothing))
        ∧ ∀ (tops : Vector Nat 4) (now : ServiceTime), band ≠ none → s.written.length + s.reserved < 256 →
            s.ceilings = some tops → s.clock = some now →
          exec .openSailing s = .next
            (answered
              { Claims.reserved s with
                sailings := s.sailings.set b
                  (some ⟨.boarding, a.sailing, line, min a.capacity.toNat tops[b], 0, 0, 0, 0, 0, now, true⟩) }
              rest .openSailing tag (if a.capacity.toNat ≤ tops[b] then .ok else .clamped)
              (.capacity (min a.capacity.toNat tops[b])))

/-- R72, R75: DEPART by its rows. -/
def Obligations.DepartByTable : Prop :=
  ∀ (s : State) (tag : Byte) (rest : List MgmtFrame) (a : Byte), s.offers .depart tag [a] rest →
    (3 < a.toNat → exec .depart s = .next (answered s rest .depart tag .badIndex .nothing))
    ∧ ∀ b : BerthNo, a.toNat = b.val →
      (s.sailings[b] = none → exec .depart s = .next (answered s rest .depart tag .badState .nothing))
      ∧ ∀ sl, s.sailings[b] = some sl →
        (sl.state = .closing → exec .depart s = .next (answered s rest .depart tag .badState .nothing))
        ∧ (∀ now, s.clock = some now → sl.state = .suspended ∨ (sl.state = .boarding ∧ sl.held = 0) →
          exec .depart s = .next (answered (closed s b sl now) rest .depart tag .ok (.sailingState none)))
        ∧ (sl.state = .boarding → 0 < sl.held →
          exec .depart s = .next
            { answered s rest .depart tag .ok (.sailingState (some .closing)) with
              sailings := s.sailings.set b (some { sl with state := .closing })
              engine := s.engine.map fun d =>
                if d.found.map (·.berth) = some b ∧ d.change ≠ .closed then { d with change := .left } else d })

/-! ### Records -/

/-- R139: FETCH_RECORDS sends the oldest min(n, held) records and the REPLY as one run, and removes nothing. -/
def Obligations.FetchRecordsSendsOldest : Prop :=
  ∀ (s : State) (tag : Byte) (rest : List MgmtFrame) (n : Byte), s.offers .fetchRecords tag [n] rest →
    exec .fetchRecords s = .next
      (if n.toNat = 0 ∨ 16 < n.toNat then answered s rest .fetchRecords tag .badValue .nothing
       else
        { s with
          receiveList := rest
          outgoing := s.outgoing ++ (s.written.take n.toNat).map .record
            ++ [.reply Command.fetchRecords.code tag .ok (.sent (min n.toNat s.written.length))] })

/-- R140, R142: ACK_RECORDS removes every record up to the one named, found by its number. -/
def Obligations.AckRecordsRemovesUpToNumber : Prop :=
  ∀ (s : State) (tag : Byte) (rest : List MgmtFrame) (n : SeqNumber), s.offers .ackRecords tag (beBytes 2 n.toNat) rest →
    ((∀ r ∈ s.written, r.seq ≠ n) →
      exec .ackRecords s = .next (answered s rest .ackRecords tag .badSeq (.oldest (s.written.head?.map (·.seq)))))
    ∧ ∀ (front left : List Record) (r : Record), s.written = front ++ r :: left → r.seq = n → (∀ q ∈ front, q.seq ≠ n) →
      exec .ackRecords s = .next
        { answered s rest .ackRecords tag .ok (.acked (front.length + 1) left.length) with
          written := left
          queueHighArmed := decide (left.length + s.reserved < s.params.highMark) || s.queueHighArmed }

/-! ### Uplink -/

/-- R175 to R178, R25: STATUS answers with one reading of every block in three frames, and a named gate's counts are
cleared once read. -/
def Obligations.StatusReadsEveryBlock : Prop :=
  ∀ (s : State) (tag : Byte) (rest : List MgmtFrame),
    let part : PartSection :=
      { service := s.service, lineRequest := s.musterLine, commandRequest := s.commandRequest, resetCause := s.resetCause,
        clock := s.clock, ceilings := s.ceilings, activeBank := s.activeBank, countA := s.bankA.count,
        countB := s.bankB.count, waiting := s.waitingActivation.map (·.bank), written := s.written.length,
        reserved := s.reserved, nextSeq := s.nextSeq, lastPriority := s.lastPriority }
    let gates : List GateReport := s.gates.toList.map fun c =>
      ⟨c.state, c.list.map fun t => match t.state with
        | .pending _ => .pending
        | .deciding => .deciding
        | .awaiting _ => .awaitingPassage, c.badFrames, c.strays⟩
    let run : State :=
      { s with
        receiveList := rest
        outgoing := s.outgoing ++
          [.reply Command.status.code tag .ok (.part part), .reply Command.status.code tag .ok (.gates gates),
            .reply Command.status.code tag .ok (.berths s.sailings.toList)] }
    (s.offers .status tag [] rest → exec .status s = .next run)
    ∧ ∀ b : Byte, s.offers .status tag [b] rest →
      (15 < b.toNat → exec .status s = .next (answered s rest .status tag .badIndex .nothing))
      ∧ ∀ g : Gate, b.toNat = g.val →
        exec .status s = .next { run with gates := s.gates.set g { s.gates[g] with badFrames := 0, strays := 0 } }

namespace Sys2Proof.Claims
open Sys2Proof.Machine

/-! ### Frames as the tables of chapter 12 lay them out -/

/-- A number in so many bytes, most significant first (R183). -/
def num : Nat → Nat → List Byte
  | 0, _ => []
  | n + 1, v => BitVec.ofNat 8 (v / 256 ^ n) :: num n v

/-- Fields one after another, each a size in bytes and a value. -/
def fields (l : List (Nat × Nat)) : List Byte := (l.map fun p => num p.1 p.2).flatten

/-- Bytes in the envelope of R180 with any check word. -/
def envelope (cls : Byte) (payload : List Byte) (check : BitVec 16) : List Byte :=
  [0xA5, cls, BitVec.ofNat 8 payload.length] ++ payload ++ num 2 check.toNat

/-- A frame with its check word over class, length and payload (R180, R181). -/
def checked (cls : Byte) (payload : List Byte) : List Byte :=
  envelope cls payload (checkWord (cls :: BitVec.ofNat 8 payload.length :: payload))

/-- A flag at bit n of a flags byte (R183). -/
def flag (n : Nat) (b : Bool) : Nat := if b then 2 ^ n else 0

/-- Four-byte two's complement; absent is sent as 0 (R183). -/
def signed (v : Option Int) : Nat := (v.getD 0 % 4294967296).toNat

/-- Day in two bytes, second in three; absent is sent as 0 (R183). -/
def timeFields (t : Option ServiceTime) : List (Nat × Nat) :=
  match t with
  | some t => [(2, t.day), (3, t.second)]
  | none => [(2, 0), (3, 0)]

/-- 1 to 13 in the order of the table in 2.4, 0 for none (R183). -/
def reasonNumber (r : Option Reason) : Nat :=
  match r with
  | none => 0
  | some r => 1 + [Reason.noSailing, .departing, .cardData, .listed, .noProduct, .noFare, .full, .expired, .lineNotCovered,
      .slotMismatch, .passback, .passUsedUp, .lowBalance].idxOf r

/-- A 0, B 1 (R183). -/
def bankNumber (n : BankName) : Nat := [BankName.bankA, .bankB].idxOf n

/-- Class and payload of VERDICT and GATE_MODE (R182 to R184). -/
def gateLayout : GateFrame → Byte × List (Nat × Nat)
  | .verdict tap outcome reason charged newBalance inspect =>
    (0x20, [(2, tap.toNat),
      (1, 1 + [VerdictOutcome.opened, .openInspect, .openCrew, .refuse, .notInService, .muster, .gateClosed, .busy,
        .retry].idxOf outcome),
      (1, reasonNumber reason), (2, charged), (4, signed newBalance), (1, flag 0 inspect + flag 1 newBalance.isSome)])
  | .gateMode mode => (0x21, [(1, 1 + [GateMode.normal, .closed, .freeEgress].idxOf mode)])

/-- A table entry (R185): product 5 bytes, band 10, curve 22, concession 2. -/
def entryFields : TableEntry → List (Nat × Nat)
  | .product e => [(1, [ProductKind.storedValue, .periodPass, .cappedPass].idxOf e.kind), (4, e.lines.toNat)]
  | .band e => [(2, e.base), (2, e.floor), (2, e.ceiling), (1, e.curve.val), (1, e.window), (2, e.cap)]
  | .curve e => [(2, e.value0), (2, e.slope0), (2, e.point1.source), (2, e.point1.value), (2, e.point1.slope),
      (2, e.point2.source), (2, e.point2.value), (2, e.point2.slope), (2, e.point3.source), (2, e.point3.value),
      (2, e.point3.slope)]
  | .concession factor => [(2, factor)]

/-- Gate, filter index, media number and match time of a priority match; absent is sent as 0 (R186). -/
def priorityFields : Option PriorityMatch → List (Nat × Nat)
  | none => [(1, 0), (1, 0), (6, 0), (5, 0)]
  | some m => [(1, m.gate.val), (1, m.index.val), (6, m.media.toNat)] ++ timeFields (some m.time)

/-- The codes of the last table of R186, each in its order from 0. -/
def serviceNumber (s : ServiceState) : Nat := [ServiceState.config, .inService, .muster].idxOf s
/-- Sailing state: a CLOSED berth, which holds none, 0; then BOARDING, SUSPENDED, CLOSING (R186). -/
def sailingNumber (s : Option SailingState) : Nat := [none, some SailingState.boarding, some .suspended, some .closing].idxOf s
/-- A bank, or NONE as 2 (R186). -/
def markerNumber (n : Option BankName) : Nat := [some BankName.bankA, some .bankB, none].idxOf n
/-- State of the transaction at a place of the list, 0 beyond the count (R186). -/
def txNumber (t : Option TxStateName) : Nat :=
  match t with
  | some t => [TxStateName.pending, .deciding, .awaitingPassage].idxOf t
  | none => 0

/-- The PART section from its section byte (R186). -/
def partFields (r : PartSection) : List (Nat × Nat) :=
  let top (b : Fin 4) : Nat := match r.ceilings with
    | some tops => tops[b]
    | none => 0
  [(1, 1), (1, serviceNumber r.service), (1, flag 0 r.lineRequest + flag 1 r.commandRequest),
    (1, [ResetKind.power, .line, .command].idxOf r.resetCause),
    (1, flag 0 r.clock.isSome + flag 1 r.ceilings.isSome + flag 2 r.lastPriority.isSome)]
    ++ timeFields r.clock ++ [(2, top 0), (2, top 1), (2, top 2), (2, top 3), (1, markerNumber r.activeBank), (1, r.countA),
      (1, r.countB), (1, markerNumber r.waiting), (2, r.written), (2, r.reserved), (2, r.nextSeq.toNat)]
    ++ priorityFields r.lastPriority

/-- Six bytes of one gate (R186). -/
def gateFields (r : GateReport) : List (Nat × Nat) :=
  [(1, [GateState.disabled, .draining, .active].idxOf r.state), (1, r.transactions.length),
    (1, txNumber r.transactions[0]?), (1, txNumber r.transactions[1]?), (1, r.badFrames), (1, r.strays)]

/-- Twenty-two bytes of one berth (R186). -/
def berthFields : Option Sailing → List (Nat × Nat)
  | none => [(1, 0), (2, 0), (1, 0), (2, 0), (2, 0), (2, 0), (1, 0), (2, 0), (4, 0), (2, 0), (3, 0)]
  | some sl => [(1, sailingNumber (some sl.state)), (2, sl.id.toNat), (1, sl.line.val), (2, sl.capacity), (2, sl.boarded),
      (2, sl.held), (1, sl.crew), (2, sl.refused), (4, sl.revenue), (2, sl.openingTime.day), (3, sl.openingTime.second)]

/-- The reply data from offset 3 (R186). -/
def replyFields : ReplyData → List (Nat × Nat)
  | .nothing => []
  | .params p => [(2, p.passageWindow), (2, p.tapWait), (2, p.overdraft),
      (1, [DefaultAction.accept, .refuse].idxOf p.defaultAction), (2, p.highMark), (2, p.passback)]
  | .masks m => [(1, flag 0 m.capacityReached), (1, flag 0 m.queueHigh), (1, flag 0 m.priorityMatch)]
  | .count n => [(1, n)]
  | .bank b => [(1, bankNumber b)]
  | .entry none => [(1, 0)]
  | .entry (some e) => (1, 1) :: entryFields e
  | .capacity n => [(2, n)]
  | .sailingState s => [(1, sailingNumber s)]
  | .service s => [(1, serviceNumber s)]
  | .missing m => [(1, 1 + [MissingItem.clockUnset, .limitsUnset, .noActiveBank].idxOf m)]
  | .stillOpen berths gates => [(1, berths), (1, gates)]
  | .sent n => [(1, n)]
  | .acked removed left => [(2, removed), (2, left)]
  | .oldest seq => [(1, flag 0 seq.isSome), (2, (seq.getD 0).toNat)]
  | .part r => partFields r
  | .gates r => (1, 2) :: r.flatMap gateFields
  | .berths r => (1, 3) :: r.flatMap berthFields

/-- The fields of an alert from its kind code (R186). -/
def alertFields : Alert → List (Nat × Nat)
  | .capacityReached berth sailing capacity boarded held =>
    [(1, 1), (1, berth.val), (2, sailing.toNat), (2, capacity), (2, boarded), (2, held)]
  | .queueHigh written reserved oldest =>
    [(1, 2), (2, written), (2, reserved), (1, flag 0 oldest.isSome), (2, (oldest.getD 0).toNat)]
  | .priorityMatch m => (1, 3) :: priorityFields (some m)

/-- The fields of a record: 41 bytes of a tap record, 28 of a summary (R187). -/
def recordFields (r : Record) : List (Nat × Nat) :=
  (2, r.seq.toNat) :: match r.body with
    | .tap t =>
      [(1, 1 + [TapKind.boarded, .notBoarded, .writeFailed, .timedOut, .voided, .refused].idxOf t.kind), (1, t.gate.val),
        (1, match t.berth with
          | some b => b.val
          | none => 255),
        (2, (t.sailing.getD 0).toNat), (2, t.tap.toNat), (6, t.media.toNat), (1, t.product.toNat), (1, t.concession.toNat),
        (1, match t.filterIndex with
          | some i => i.val
          | none => 0),
        (1, reasonNumber t.reason),
        (1, flag 0 t.crew + flag 1 t.inspect + flag 2 t.sailing.isSome + flag 3 t.filterIndex.isSome
          + flag 4 t.newBalance.isSome),
        (1, bankNumber t.bank), (2, t.fareValue), (2, t.credit), (2, t.charged), (4, signed t.newBalance)]
        ++ timeFields (some t.verdictTime) ++ timeFields (some t.resolutionTime)
    | .summary m =>
      [(1, 7), (2, m.sailing.toNat), (1, m.berth.val), (1, m.line.val), (2, m.capacity), (2, m.boarded), (1, m.crew),
        (2, m.refused), (4, m.revenue)]
        ++ timeFields (some m.openingTime) ++ timeFields (some m.closingTime)

/-- Class and payload of REPLY, RECORD and ALERT (R182, R183, R186, R187). -/
def uplinkLayout : UplinkFrame → Byte × List (Nat × Nat)
  | .reply code tag result data =>
    (0x50, [(1, code.toNat), (1, tag.toNat),
      (1, [ReplyResult.ok, .clamped, .lineHeld, .badState, .badIndex, .badValue, .alreadySet, .bankMismatch, .busy, .slotBusy,
        .queueFull, .badSeq, .unknownCommand, .malformed].idxOf result)] ++ replyFields data)
  | .record r => (0x51, recordFields r)
  | .alert a => (0x52, alertFields a)

end Sys2Proof.Claims

/-- R8, R173, R166, R180 to R187: the oldest frame of a list leaves its link while the part is not in reset, in its envelope
and with the bytes that chapter 12 lays out, field by field. -/
def Obligations.OldestFrameLeavesFirst : Prop :=
  ∀ s : State, s.phase = .running ∨ s.phase = .resetTaken →
    (∀ f rest, s.outgoing = f :: rest →
      exec .uplinkFrameSent s = .next
        { s with outgoing := rest, uplinkTx := checked (uplinkLayout f).1 (fields (uplinkLayout f).2) })
    ∧ ∀ (g : Gate) f rest, s.laneOut[g] = f :: rest →
      exec (.laneFrameSent g) s = .next
        { s with
          laneOut := s.laneOut.set g rest
          laneTx := s.laneTx.set g (checked (gateLayout f).1 (fields (gateLayout f).2)) }

namespace Sys2Proof.Claims
open Sys2Proof.Machine

/-- The row of the opcode table for a command (11.2). -/
def rowOf : Command → Instr
  | .setTime => .setTime
  | .setLimits => .setLimits
  | .setParameters => .setParameters
  | .setAlertMask => .setAlertMask
  | .gateConfig => .gateConfig
  | .loadFilter => .loadFilter
  | .loadFare => .loadFare
  | .clearBank => .clearBank
  | .activateBank => .activateBank
  | .readEntry => .readEntry
  | .loadSlot => .loadSlot
  | .clearSlot => .clearSlot
  | .openSailing => .openSailing
  | .depart => .depart
  | .musterStart => .musterStart
  | .musterEnd => .musterEnd
  | .startService => .startService
  | .stopService => .stopService
  | .fetchRecords => .fetchRecords
  | .ackRecords => .ackRecords
  | .status => .status
  | .reset => .reset

/-- The argument lengths a command takes (R185). -/
def argLengths : Command → List Nat
  | .setTime => [5]
  | .setLimits => [8]
  | .setParameters => [11]
  | .setAlertMask => [3]
  | .gateConfig => [6]
  | .loadFilter => [17]
  | .loadFare => [25]
  | .clearBank => [1]
  | .activateBank => [2]
  | .readEntry => [3]
  | .loadSlot => [8]
  | .clearSlot => [1]
  | .openSailing => [6]
  | .depart => [1]
  | .musterStart => [0]
  | .musterEnd => [0]
  | .startService => [0]
  | .stopService => [0]
  | .fetchRecords => [1]
  | .ackRecords => [2]
  | .status => [0, 1]
  | .reset => [0]

end Sys2Proof.Claims

/-- R169: a frame whose code names no command, or whose length its command does not take, is answered and changes no
state; the REPLY echoes code and tag. -/
def Obligations.UnknownAndMalformedAreAnswered : Prop :=
  (∀ (s : State) (code tag : Byte) (args : List Byte) (rest : List MgmtFrame), s.phase = .running →
    s.receiveList = ⟨code, tag, args⟩ :: rest →
    s.outgoing.length + s.waitingWrites.length + (if s.waitingActivation.isSome then 1 else 0) ≤ 47 →
    (∀ c : Command, c.code ≠ code) →
    exec .unknownCommand s = .next
      { s with receiveList := rest, outgoing := s.outgoing ++ [.reply code tag .unknownCommand .nothing] })
  ∧ ∀ (s : State) (c : Command) (tag : Byte) (args : List Byte) (rest : List MgmtFrame), s.offers c tag args rest →
    args.length ∉ argLengths c → exec (rowOf c) s = .next (answered s rest c tag .malformed .nothing)

/-- R169, R170, R181: a MGMT frame that passes the arrival checks joins the receive list while it holds fewer than 8;
every other frame is discarded silently. -/
def Obligations.MgmtFrameJoinsReceiveList : Prop :=
  ∀ s : State, s.phase = .running → s.uplinkRx = .hunting →
    (∀ (cls : Byte) (payload : List Byte) (check : BitVec 16), payload.length ≤ 120 →
      exec (.mgmtFrameArrival (envelope cls payload check)) s = .next
        (match payload with
          | code :: tag :: args =>
            if check = checkWord (cls :: BitVec.ofNat 8 payload.length :: payload) ∧ cls = 0x40 ∧ s.receiveList.length < 8
            then { s with receiveList := s.receiveList ++ [⟨code, tag, args⟩] } else s
          | _ => s))
    ∧ ∀ cls len : Byte, 120 < len.toNat → exec (.mgmtFrameArrival [0xA5, cls, len]) s = .next s

/-! ### Gate lanes -/

namespace Sys2Proof.Claims
open Sys2Proof.Machine

/-- The number that bytes spell, most significant first (R183). -/
def number : List Byte → Nat
  | [] => 0
  | b :: bs => b.toNat * 256 ^ bs.length + number bs

/-- The number in the field at this offset and of this size. -/
def field (p : List Byte) (off size : Nat) : Nat := number ((p.drop off).take size)

/-- The bit of the presence flags of a TAP payload; no other bit of that byte is looked at (R183, R184). -/
def present (p : List Byte) (bit : Nat) : Bool := (field p 15 1).testBit bit

/-- A TAP payload of 26 bytes read by the table of R184. A group whose presence bit is clear is absent, whatever its bytes
hold (R183). -/
def tapOf (p : List Byte) : TapFrame where
  tap := BitVec.ofNat 16 (field p 0 2)
  card :=
    { media := BitVec.ofNat 48 (field p 2 6)
      issuer := BitVec.ofNat 8 (field p 8 1)
      product := BitVec.ofNat 8 (field p 9 1)
      concession := BitVec.ofNat 8 (field p 10 1)
      balance := BitVec.ofNat 32 (field p 11 4)
      lastBoarding :=
        if present p 0 then
          some
            { line := BitVec.ofNat 8 (field p 16 1)
              day := BitVec.ofNat 16 (field p 17 2)
              second := BitVec.ofNat 24 (field p 19 3)
              farePaid := BitVec.ofNat 16 (field p 22 2) }
        else none
      passExpiry := if present p 1 then some (BitVec.ofNat 16 (field p 24 2)) else none }

end Sys2Proof.Claims

/-- R11 to R13, R183, R184: a TAP is answered by the first row that applies, whatever its 26 bytes hold: flag bits without a
name, and the bytes of a group whose presence bit is clear, are not looked at. Every TAP is spelled by some payload. -/
def Obligations.TapAnsweredByFirstRow : Prop :=
  (∀ t : TapFrame, (tapPayload t).length = 26 ∧ tapOf (tapPayload t) = t)
  ∧ ∀ (s : State) (g : Gate) (payload : List Byte), s.phase = .running → s.laneRx[g] = .hunting → payload.length = 26 →
    let t := tapOf payload
    let answer (o : VerdictOutcome) : State :=
      { s with laneOut := s.laneOut.set g (s.laneOut[g] ++ [.verdict t.tap o none 0 none false]) }
    exec (.tap g (checked 0x10 payload)) s = .next
      (if s.service = .config then answer .notInService
       else if s.service = .muster then answer .muster
       else if s.gates[g].state = .disabled ∨ s.gates[g].state = .draining then answer .gateClosed
       else if s.gates[g].list.any (fun u => decide (u.tap = t.tap)) then answer .busy
       else if (if s.gates[g].config.lane = .standard then 1 else 2) ≤ s.gates[g].list.length then answer .busy
       else
        { s with
          gates := s.gates.set g
            { s.gates[g] with
              list := s.gates[g].list ++ [⟨t.tap, t.card, s.timeBase, .pending ⟨s.timeBase, s.params.tapWait⟩⟩] } })

/-- R24, R181, R182: what makes a frame on a gate lane bad, that it is discarded and counted, and that a frame that passes
the checks, whatever the 26 bytes of a TAP or the 3 of a PASSAGE hold, goes on to R11 or R18 as R183 and R184 read it. -/
def Obligations.BadLaneFramesAreCounted : Prop :=
  ∀ (s : State) (g : Gate), s.phase = .running → s.laneRx[g] = .hunting →
    let counted : State :=
      { s with gates := s.gates.set g { s.gates[g] with badFrames := min 255 (s.gates[g].badFrames + 1) } }
    (∀ (cls : Byte) (payload : List Byte) (check : BitVec 16), payload.length ≤ 120 →
      (check ≠ checkWord (cls :: BitVec.ofNat 8 payload.length :: payload)
        ∨ (cls = 0x10 ∧ payload.length ≠ 26) ∨ (cls = 0x11 ∧ payload.length ≠ 3) ∨ (cls ≠ 0x10 ∧ cls ≠ 0x11)) →
      exec (.tap g (envelope cls payload check)) s = .next counted
        ∧ exec (.passage g (envelope cls payload check)) s = .next counted)
    ∧ (∀ cls len : Byte, 120 < len.toNat →
      exec (.tap g [0xA5, cls, len]) s = .next counted ∧ exec (.passage g [0xA5, cls, len]) s = .next counted)
    ∧ (∀ payload : List Byte, payload.length = 26 →
      exec (.tap g (checked 0x10 payload)) s = .next (s.tapArrives g (tapOf payload)))
    ∧ (∀ t : TapFrame, exec (.tap g (checked 0x10 (tapPayload t))) s = .next (s.tapArrives g t))
    ∧ ∀ (tap : TapNumber) (code : Byte),
      exec (.passage g (checked 0x11 (num 2 tap.toNat ++ [code]))) s =
        .next (s.passageArrives g tap (passageResult code))

/-- R18 to R22, R74, R111, R112: a PASSED report ends an awaiting transaction as a boarding; a TURNED_BACK or WRITE_FAILED
report, or the end of its passage window, ends it without one. That the expiry's resolution time is the clock as it stands, and
not advanced by the tenths the expiry brings forward, is the model's choice (log 3). -/
def Obligations.AwaitingTransactionEndings : Prop :=
  ∀ (s : State) (g : Gate) (tap : TapNumber) (t : Transaction) (a : Awaiting) (now : ServiceTime),
    s.phase = .running → s.clock = some now → findTap s.gates[g].list tap = some t → t.state = .awaiting a →
    (s.laneRx[g] = .hunting →
      exec (.passage g (checked 0x11 (num 2 tap.toNat ++ [1]))) s =
        .next (closedIfEmpty (boarded s g t a now) g now)
      ∧ exec (.passage g (checked 0x11 (num 2 tap.toNat ++ [2]))) s =
        .next (closedIfEmpty (notBoarded s g t a .notBoarded now) g now)
      ∧ exec (.passage g (checked 0x11 (num 2 tap.toNat ++ [3]))) s =
        .next (closedIfEmpty (notBoarded s g t a .writeFailed now) g now))
    ∧ exec (.passageWindowExpiry g tap) s = .next
        (let e := a.window.start + a.window.length
         let s1 := { s with timeBase := max s.timeBase e, tenths := s.tenths + (e - s.timeBase) }
         closedIfEmpty (notBoarded s1 g t a .timedOut now) g now)

/-- R18, R23: a report that matches no awaiting transaction, or whose result is none of the three, is stray. -/
def Obligations.StrayReportsAreCounted : Prop :=
  ∀ (s : State) (g : Gate) (tap : TapNumber) (code : Byte), s.phase = .running → s.laneRx[g] = .hunting →
    (code = 0 ∨ 3 < code.toNat ∨ ∀ t, findTap s.gates[g].list tap = some t → ∀ a, t.state ≠ .awaiting a) →
    exec (.passage g (checked 0x11 (num 2 tap.toNat ++ [code]))) s = .next
      { s with gates := s.gates.set g { s.gates[g] with strays := min 255 (s.gates[g].strays + 1) } }

/-- R14, R13, R21: a PENDING transaction whose tap wait ends leaves the list and is answered RETRY. -/
def Obligations.TapWaitExpiryAnswersRetry : Prop :=
  ∀ (s : State) (g : Gate) (tap : TapNumber) (t : Transaction) (w : Timer), s.phase = .running →
    findTap s.gates[g].list tap = some t → t.state = .pending w →
    exec (.tapWaitExpiry g tap) s = .next
      (ended
        { s with
          timeBase := max s.timeBase (w.start + w.length)
          tenths := s.tenths + (w.start + w.length - s.timeBase)
          laneOut := s.laneOut.set g (s.laneOut[g] ++ [.verdict tap .retry none 0 none false]) } g tap)

/-! ### The arbiter and the engine -/

/-- R28 to R31: the arbiter grants the winner of R29 as R30 lays down, and nothing while no transaction is
eligible (log 2). -/
def Obligations.GrantTakesTheWinner : Prop :=
  ∀ s : State, s.phase = .running →
    (∀ (g : Gate) (t : Transaction) (before after : List Transaction) (bank : BankName) (now : ServiceTime),
      s.gates[g].list = before ++ t :: after → (∀ u ∈ before, u.isPending = false) →
      (s.gates[g].list.map (·.tap)).Nodup → Eligible s g t →
      (∀ g' t', Eligible s g' t' → s.gates[g'].config.priority < s.gates[g].config.priority
        ∨ (s.gates[g'].config.priority = s.gates[g].config.priority ∧ turn s g ≤ turn s g')) →
      s.activeBank = some bank → s.clock = some now →
      exec .grant s = .next (Claims.reserved
        { s with
          gates := s.gates.set g { s.gates[g] with list := before ++ { t with state := .deciding } :: after }
          lastGranted := g
          engine := some
            { gate := g, tap := t.tap, stage := .sailing, bank := bank, time := now, found := none, change := .unchanged,
              occupancy := none, filterIndex := none, crew := false, inspect := false, slot := none, kind := none,
              fareValue := 0, credit := 0, charged := 0, newBalance := none, refusal := none } }))
    ∧ ((∀ g t, ¬ Eligible s g t) → exec .grant s = .next s)

namespace Sys2Proof.Claims
open Sys2Proof.Machine

/-- The decision refuses: the reason stands, stage 8 follows, a binding ends (R31, R105). -/
def refused (d : Decision) (r : Reason) : Decision := { d with refusal := some r, stage := .verdict, slot := none }

/-- The state with the decision in progress at this point. -/
def deciding (s : State) (d : Decision) : State := { s with engine := some d }

/-- The card data is out of range (R33). -/
def OutOfRange (c : CardData) : Prop :=
  c.media = 0 ∨ c.issuer = 255 ∨ 7 < c.concession.toNat ∨ c.balance.toInt < -99999 ∨ 999999 < c.balance.toInt
    ∨ ∃ b, c.lastBoarding = some b ∧ (86400 ≤ b.second.toNat ∨ 31 < b.line.toNat ∨ 9999 < b.farePaid.toNat)

end Sys2Proof.Claims

/-- R32, R33: stage 1 finds the sailing of the gate's berth, and stage 2 checks the card data. A refusing stage drops the
binding at once, here and below, by the model's reading (log 10). -/
def Obligations.FirstStagesFindSailingAndCheckCard : Prop :=
  ∀ (s : State) (d : Decision) (t : Transaction),
    (s.deciding .sailing d t →
      (s.gates[d.gate].config.berth = none → exec .sailingStage s = .next (deciding s (refused d .noSailing)))
      ∧ ∀ b, s.gates[d.gate].config.berth = some b →
        (s.sailings[b] = none → exec .sailingStage s = .next (deciding s (refused d .noSailing)))
        ∧ ∀ sl, s.sailings[b] = some sl →
          (sl.state = .boarding →
            exec .sailingStage s =
              .next (deciding s { d with found := some ⟨b, sl.id, sl.line⟩, stage := .cardData }))
          ∧ (sl.state = .closing →
            exec .sailingStage s =
              .next (deciding s (refused { d with found := some ⟨b, sl.id, sl.line⟩ } .departing))))
    ∧ (s.deciding .cardData d t →
      (OutOfRange t.card → exec .cardDataStage s = .next (deciding s (refused d .cardData)))
      ∧ (¬ OutOfRange t.card → exec .cardDataStage s = .next (deciding s { d with stage := .filter })))

/-- R34, R41, R49 to R54, R57, R58: stage 3 begins its search, acts on the first match or by the default action, raises
PRIORITY_MATCH, and then the waiting writes are applied and answered in order. -/
def Obligations.FilterStageActsByFirstMatch : Prop :=
  ∀ (s : State) (d : Decision) (t : Transaction),
    (s.deciding .filter d t → exec .filterSearch s = .next (deciding s { d with stage := .searching }))
    ∧ ∀ found, s.deciding .searching d t → SearchEndsAt s.filters t.card.media t.card.issuer found →
      let d1 : Decision := match found with
        | some (i, r) =>
          let d := { d with filterIndex := some i }
          match r.action with
          | .refuse => refused d .listed
          | .priority => { d with crew := true, stage := .verdict }
          | .inspect => { d with inspect := true, stage := .product }
          | .slot k => { d with slot := some k, stage := .product }
          | .accept => { d with stage := .product }
        | none => if s.params.defaultAction = .refuse then refused d .listed else { d with stage := .product }
      let s1 : State := match found with
        | some (i, r) =>
          if r.action = .priority then
            alerted { deciding s d1 with lastPriority := some ⟨d.gate, i, t.card.media, d.time⟩ } s.masks.priorityMatch
              (.priorityMatch ⟨d.gate, i, t.card.media, d.time⟩)
          else deciding s d1
        | none => deciding s d1
      exec .filterSearchComplete s = .next
        { s1 with
          filters := s.waitingWrites.foldl (fun fs w => fs.set w.index w.entry) s.filters
          waitingWrites := []
          outgoing := s1.outgoing
            ++ s.waitingWrites.map fun w => .reply Command.loadFilter.code w.tag .ok .nothing }

/-- R35, R36, R73: stage 4 reads product and band of the bank used, and stage 5 admits a tap while there is room. On a sailing
that has become CLOSING stage 5 is not reached: stage 8 follows; that stage 6 is passed over with it is the model's reading
(log 28). -/
def Obligations.ProductAndCapacityStages : Prop :=
  ∀ (s : State) (d : Decision) (t : Transaction) (f : SailingFound), d.found = some f →
    (s.deciding .product d t →
      (((s.bank d.bank).products[t.card.product.toNat]?).join = none →
        exec .productStage s = .next (deciding s (refused d .noProduct)))
      ∧ ∀ e, ((s.bank d.bank).products[t.card.product.toNat]?).join = some e →
        ((s.bank d.bank).bands[f.line] = none →
          exec .productStage s = .next (deciding s (refused { d with kind := some e.kind } .noFare)))
        ∧ ((s.bank d.bank).bands[f.line] ≠ none →
          exec .productStage s = .next (deciding s
            { d with
              kind := some e.kind
              slot := if e.kind = .cappedPass then d.slot else none
              stage := .capacity })))
    ∧ (s.deciding .capacity d t → d.change = .left →
      exec .capacityStage s = .next (deciding s { d with stage := .verdict }))
    ∧ ∀ sl, s.deciding .capacity d t → s.sailings[f.berth] = some sl → d.change = .unchanged →
      (sl.boarded + sl.held < sl.capacity →
        exec .capacityStage s = .next (deciding s
          { d with occupancy := some ⟨sl.boarded + sl.held, sl.capacity⟩, stage := .productKind }))
      ∧ (sl.capacity ≤ sl.boarded + sl.held → exec .capacityStage s = .next (deciding s (refused d .full)))

/-- Log 7, for every free value: stage 5 of a decision whose sailing has closed goes on with an occupancy below a capacity
of 1 to 999, and moves nothing else. -/
def Obligations.CapacityStageAfterCloseGoesOn : Prop :=
  ∀ (s : State) (d : Decision) (t : Transaction), s.deciding .capacity d t → d.change = .closed →
    ∃ o : Occupancy, o.occupied < o.capacity ∧ o.capacity ≤ 999
      ∧ exec .capacityStage s = .next
        { deciding s { d with occupancy := some o, stage := .productKind } with freeCount := s.freeCount + 1 }

namespace Sys2Proof.Claims
open Sys2Proof.Machine

/-- The checks of stage 6 for a pass, in order; the first that fails (R37, R108, R109). -/
def passRefusal (s : State) (d : Decision) (c : CardData) (e : ProductEntry) (f : SailingFound) (capped : Bool) :
    Option Reason :=
  if c.passExpiry.all fun x => decide (x.toNat < d.time.day) then some .expired
  else if e.lines.getLsbD f.line.val = false then some .lineNotCovered
  else if capped = false then none
  else match d.slot.bind fun k => s.slots[k] with
    | none => some .slotMismatch
    | some p =>
      if p.media ≠ c.media then some .slotMismatch
      else if p.inFlight = true then some .passback
      else if p.lastUse.any fun u => decide (secondsSince d.time u < s.params.passback) then some .passback
      else if p.uses = p.limit then some .passUsedUp
      else none

end Sys2Proof.Claims

/-- R37, R108, R109: stage 6 by product kind; no slot changes. -/
def Obligations.ProductKindStageByTable : Prop :=
  ∀ (s : State) (d : Decision) (t : Transaction) (e : ProductEntry) (f : SailingFound), s.deciding .productKind d t →
    d.found = some f → ((s.bank d.bank).products[t.card.product.toNat]?).join = some e → d.kind = some e.kind →
    exec .productKindStage s = .next (deciding s
      (match e.kind with
        | .storedValue => { d with stage := .fare }
        | .periodPass => match passRefusal s d t.card e f false with
          | some r => refused d r
          | none => { d with stage := .fare }
        | .cappedPass => match passRefusal s d t.card e f true with
          | some r => refused d r
          | none => { d with stage := .fare }))

/-- R38, R84 to R99, R103: stage 7 prices the tap and runs the purse check of a stored-value card, whatever has become of the
sailing since stage 5. -/
def Obligations.FareStagePricesTap : Prop :=
  ∀ (s : State) (d : Decision) (t : Transaction) (f : SailingFound) (band : BandEntry) (kind : ProductKind)
    (o : Occupancy), s.deciding .fare d t → d.found = some f → (s.bank d.bank).bands[f.line] = some band →
    d.kind = some kind → d.occupancy = some o →
    let v := fareOf band (s.bank d.bank).curves[band.curve]
      (((s.bank d.bank).concessions[t.card.concession.toNat]?).join) o.occupied o.capacity
    let c := creditOf band f.line t.card.lastBoarding d.time
    let after : Int := t.card.balance.toInt - ((v - c : Nat) : Int)
    exec .fareStage s = .next (deciding s
      (if kind = .storedValue then
        if -(s.params.overdraft : Int) ≤ after then
          { d with fareValue := v, credit := c, charged := v - c, newBalance := some after, stage := .verdict }
        else refused { d with fareValue := v, credit := c, newBalance := some t.card.balance.toInt } .lowBalance
       else { d with fareValue := v, credit := 0, stage := .verdict }))

namespace Sys2Proof.Claims
open Sys2Proof.Machine

/-- The verdict of a refusal (R15, R39, R98). -/
def refusalOf (d : Decision) (c : CardData) (r : Reason) (now : ServiceTime) : Verdict where
  outcome := .refuse
  reason := some r
  charged := 0
  fareValue := d.fareValue
  credit := d.credit
  newBalance := if d.kind = some .storedValue then some c.balance.toInt else none
  inspect := d.inspect
  crew := d.crew
  filterIndex := d.filterIndex
  bank := d.bank
  time := now
  sailing := d.found.map (·.id)

/-- The verdict of an open (R16, R39). -/
def openOf (d : Decision) (now : ServiceTime) : Verdict where
  outcome := if d.crew then .openCrew else if d.inspect then .openInspect else .opened
  reason := none
  charged := d.charged
  fareValue := d.fareValue
  credit := d.credit
  newBalance := if d.kind = some .storedValue then d.newBalance else none
  inspect := d.inspect
  crew := d.crew
  filterIndex := d.filterIndex
  bank := d.bank
  time := now
  sailing := d.found.map (·.id)

/-- The VERDICT frame joins the gate's lane (R15, R16). -/
def verdictSent (s : State) (g : Gate) (tap : TapNumber) (v : Verdict) : State :=
  { s with
    laneOut := s.laneOut.set g
      (s.laneOut[g] ++ [.verdict tap v.outcome v.reason v.charged v.newBalance v.inspect]) }

/-- A place is taken on berth b's sailing, and CAPACITY_REACHED raised when that fills it while armed (R39, R66, R78). -/
def placeTaken (s : State) (b : BerthNo) (f : Sailing → Sailing) : State :=
  match s.sailings[b] with
  | none => s
  | some sl =>
    if (f sl).boarded + (f sl).held = (f sl).capacity ∧ (f sl).alertArmed = true then
      alerted { s with sailings := s.sailings.set b (some { f sl with alertArmed := false }) } s.masks.capacityReached
        (.capacityReached b (f sl).id (f sl).capacity (f sl).boarded (f sl).held)
    else { s with sailings := s.sailings.set b (some (f sl)) }

end Sys2Proof.Claims

/-- R15, R39, R70, R98: stage 8 gives a refusal of an earlier stage, or DEPARTING when the sailing found has left
BOARDING. The new balance is the model's reading (log 11). -/
def Obligations.VerdictRefuses : Prop :=
  ∀ (s : State) (d : Decision) (t : Transaction) (r : Reason) (now : ServiceTime), s.deciding .verdict d t →
    s.clock = some now → (d.refusal = some r ∨ (d.refusal = none ∧ d.change ≠ .unchanged ∧ r = .departing)) →
    exec .verdict s = .next
      (let s1 : State :=
        { s with
          sailings := match d.found with
            | some f =>
              if d.change = .closed then s.sailings
              else s.sailings.set f.berth (s.sailings[f.berth].map fun sl => { sl with refused := min 65535 (sl.refused + 1) })
            | none => s.sailings }
       let v := refusalOf d t.card r now
       let s2 := recorded (verdictSent s1 d.gate t.tap v)
        (.tap (tapFields .refused d.gate s.gates[d.gate].config.berth t.tap t.card v now))
       engineIdle (ended s2 d.gate t.tap))

/-- R16, R39, R69, R110: an open at a CONFIRMED gate holds a place or gives a crew marker, counts a slot use in flight and
starts the passage window. -/
def Obligations.VerdictOpensAtConfirmedGate : Prop :=
  ∀ (s : State) (d : Decision) (t : Transaction) (f : SailingFound) (now : ServiceTime), s.deciding .verdict d t →
    s.clock = some now → d.refusal = none → d.change = .unchanged → d.found = some f →
    s.gates[d.gate].config.counting = .confirmed →
    exec .verdict s = .next
      (let s1 := if d.crew then s else placeTaken s f.berth fun sl => { sl with held := sl.held + 1 }
       let s2 := onSlot s1 d.slot fun p => { p with uses := p.uses + 1, inFlight := true }
       let v := openOf d now
       let a : Awaiting :=
        { verdict := v, window := ⟨s.timeBase, s.params.passageWindow⟩,
          place := if d.crew then .crew else .passenger, slot := d.slot }
       engineIdle
        { verdictSent s2 d.gate t.tap v with
          gates := s.gates.set d.gate
            { s.gates[d.gate] with
              list := s.gates[d.gate].list.map fun u => if u.tap = t.tap then { u with state := .awaiting a } else u } })

/-- R17, R39, R69, R71, R110: an open at a DIRECT gate boards at once and ends the transaction with a BOARDED record. -/
def Obligations.VerdictOpensAtDirectGate : Prop :=
  ∀ (s : State) (d : Decision) (t : Transaction) (f : SailingFound) (now : ServiceTime), s.deciding .verdict d t →
    s.clock = some now → d.refusal = none → d.change = .unchanged → d.found = some f →
    s.gates[d.gate].config.counting = .direct →
    exec .verdict s = .next
      (let s1 :=
        if d.crew then
          { s with
            sailings := s.sailings.set f.berth
              (s.sailings[f.berth].map fun sl => { sl with crew := min 255 (sl.crew + 1) }) }
        else placeTaken s f.berth fun sl =>
          { sl with boarded := sl.boarded + 1, revenue := min 4294967295 (sl.revenue + d.charged) }
       let s2 := onSlot s1 d.slot fun p => { p with uses := p.uses + 1, lastUse := some now }
       let v := openOf d now
       let s3 := recorded (verdictSent s2 d.gate t.tap v)
        (.tap (tapFields .boarded d.gate s.gates[d.gate].config.berth t.tap t.card v now))
       engineIdle (ended s3 d.gate t.tap))

/-! ### Matching and pricing -/

/-- R46, R48: an entry matches a card exactly when it is enabled and its number and issuer tests pass. -/
def Obligations.FilterEntryMatchesByTable : Prop :=
  ∀ (entry : Option FilterRule) (m : Media) (issuer : Byte),
    (match entry with | some r => r.matchesCard m issuer | none => false) = true ↔ EntryMatches entry m issuer

/-- R84, R86, R87, R101: index below 256 whatever the capacity, the segment of the last source reached, factor at most 511
and never falling within a segment. -/
def Obligations.CurveFactorByFormula : Prop :=
  (∀ n c : Nat, n < c → occupancyIndex n c < 256 ∧ occupancyIndex n c * c ≤ 256 * n ∧ 256 * n < (occupancyIndex n c + 1) * c)
  ∧ (∀ (e : Option CurveEntry) (o : Nat), curveFactor e o = factorAt e o ∧ curveFactor e o ≤ 511)
  ∧ ∀ (e : CurveEntry) (o o' : Nat), o ≤ o' → curveSegment e o = curveSegment e o' →
      (curveSegment e o).source ≤ o → curveFactor (some e) o ≤ curveFactor (some e) o'

/-- R89: the adjusted fare is the exact product over 256, rounded half up. -/
def Obligations.AdjustedFareRoundsHalfUp : Prop :=
  (∀ b f : Nat, adjustedFare b f = (b * f + 128) / 256
    ∧ 512 * adjustedFare b f ≤ 2 * (b * f) + 256 ∧ 2 * (b * f) + 256 < 512 * adjustedFare b f + 512)
  ∧ (∀ b f : Nat, b ≤ 9999 → f ≤ 511 → b * f + 128 ≤ 5109617 ∧ adjustedFare b f ≤ 19959)
  ∧ (∀ b f : Nat, b = 0 ∨ f = 0 → adjustedFare b f = 0) ∧ ∀ b : Nat, adjustedFare b 256 = b

/-- R90 to R93, R97, R99: a fare value is 0 for an exempt class alone or within its band, the charged fare is within the
ceiling, and a stored-value open never leaves the balance below minus the overdraft allowance. -/
def Obligations.FaresStayWithinBand : Prop :=
  ∀ (bank : Bank) (band : BandEntry) (o : Occupancy) (line : LineCode) (kind : ProductKind) (overdraft : Nat)
    (d : Decision) (c : CardData), band.floor ≤ band.ceiling → d.charged = 0 → d.refusal = none →
    let r := fareStage bank band o line kind overdraft d c
    let exempt := (bank.concessions[c.concession.toNat]?).join = some 0
    (exempt → r.fareValue = 0) ∧ (¬ exempt → band.floor ≤ r.fareValue ∧ r.fareValue ≤ band.ceiling)
      ∧ r.charged ≤ r.fareValue ∧ r.charged ≤ band.ceiling ∧ r.credit ≤ band.cap
      ∧ (kind ≠ .storedValue → r.charged = 0 ∧ r.credit = 0 ∧ r.refusal = none)
      ∧ (kind = .storedValue → r.refusal = none →
          ∃ n : Int, r.newBalance = some n ∧ -(overdraft : Int) ≤ n ∧ n = c.balance.toInt - r.charged)

/-! ### Encodings -/

namespace Sys2Proof.Claims
open Sys2Proof.Machine

/-- A frame that ends on gate lane g: bad and counted (R24), or a TAP or PASSAGE handed to R11 or R18. -/
def laneTaken (g : Gate) (s : State) : RxEvent → State
  | .overlong => { s with gates := s.gates.set g { s.gates[g] with badFrames := min 255 (s.gates[g].badFrames + 1) } }
  | .frame cls payload check =>
    if check = checkWord (cls :: BitVec.ofNat 8 payload.length :: payload) ∧ cls = 0x10 ∧ payload.length = 26 then
      s.tapArrives g (tapOf payload)
    else if check = checkWord (cls :: BitVec.ofNat 8 payload.length :: payload) ∧ cls = 0x11 ∧ payload.length = 3 then
      s.passageArrives g (BitVec.ofNat 16 (field payload 0 2)) (passageResult (BitVec.ofNat 8 (field payload 2 1)))
    else { s with gates := s.gates.set g { s.gates[g] with badFrames := min 255 (s.gates[g].badFrames + 1) } }

/-- A frame that ends on the uplink: it joins the receive list, or is discarded silently (R169, R170). -/
def uplinkTaken (s : State) : RxEvent → State
  | .frame cls (code :: tag :: args) check =>
    if check = checkWord (cls :: BitVec.ofNat 8 (args.length + 2) :: code :: tag :: args) ∧ cls = 0x40
      ∧ s.receiveList.length < 8
    then { s with receiveList := s.receiveList ++ [⟨code, tag, args⟩] } else s
  | _ => s

end Sys2Proof.Claims

/-- R180, R181: a hunting receiver passes over bytes that are not a start mark, reads any frame whole whatever its payload
holds, ends one whose length is above 120, and goes on with the bytes behind it; a receiver in any state takes bytes that come
in two arrivals as it takes them in one. R24, R169: each arrival on a link handles the frames its bytes end, in order, and leaves
the receiver where the bytes leave it. That TAP and PASSAGE tell frames apart by the class byte alone is the model's choice
(log 4). -/
def Obligations.ReceiverReadsEveryFrame : Prop :=
  (∀ (noise rest : List Byte), (∀ b ∈ noise, b ≠ 0xA5) →
    Receiver.hunting.run (noise ++ rest) = Receiver.hunting.run rest)
  ∧ (∀ (cls : Byte) (payload : List Byte) (check : BitVec 16) (rest : List Byte), payload.length ≤ 120 →
    Receiver.hunting.run (envelope cls payload check ++ rest) =
      ((Receiver.hunting.run rest).1, .frame cls payload check :: (Receiver.hunting.run rest).2))
  ∧ (∀ (cls len : Byte) (rest : List Byte), 120 < len.toNat →
    Receiver.hunting.run ([0xA5, cls, len] ++ rest) =
      ((Receiver.hunting.run rest).1, .overlong :: (Receiver.hunting.run rest).2))
  ∧ (∀ (r : Receiver) (xs ys : List Byte),
    r.run (xs ++ ys) = (((r.run xs).1.run ys).1, (r.run xs).2 ++ ((r.run xs).1.run ys).2))
  ∧ (∀ (cls : Byte) (payload : List Byte), frameBytes cls payload = checked cls payload)
  ∧ checkWord [0x31, 0x32, 0x33, 0x34, 0x35, 0x36, 0x37, 0x38, 0x39] = 0x29B1
  ∧ (∀ t : TapFrame, laneFrame (.frame 0x10 (tapPayload t) (checkWord (checkedBytes 0x10 (tapPayload t)))) = .tap t)
  ∧ (∀ (s : State) (g : Gate) (bytes : List Byte), s.phase = .running →
    let s1 := { s with laneRx := s.laneRx.set g (s.laneRx[g].run bytes).1 }
    exec (.tap g bytes) s = .next ((s.laneRx[g].run bytes).2.foldl (laneTaken g) s1)
      ∧ exec (.passage g bytes) s = .next ((s.laneRx[g].run bytes).2.foldl (laneTaken g) s1))
  ∧ (∀ (s : State) (bytes : List Byte), s.phase = .running →
    exec (.mgmtFrameArrival bytes) s =
      .next ((s.uplinkRx.run bytes).2.foldl uplinkTaken { s with uplinkRx := (s.uplinkRx.run bytes).1 }))
  ∧ ∀ (s : State) (rx : Vector Receiver 16) (g : Gate),
    (∀ t : TapFrame, State.tapArrives { s with laneRx := rx } g t = { s.tapArrives g t with laneRx := rx })
    ∧ ∀ (tap : TapNumber) (r : PassageResult),
      State.passageArrives { s with laneRx := rx } g tap r = { s.passageArrives g tap r with laneRx := rx }

/-- R183, R185: the argument bytes of a command are read as a value exactly when they are that value's bytes, and those are
the fields of the table, in order. -/
def Obligations.ArgumentLayoutsReadBothWays : Prop :=
  (∀ bs a, parseSetTime bs = some a ↔ bs = a.bytes) ∧ (∀ bs a, parseSetLimits bs = some a ↔ bs = a.bytes)
  ∧ (∀ bs a, parseSetParameters bs = some a ↔ bs = a.bytes) ∧ (∀ bs a, parseSetAlertMask bs = some a ↔ bs = a.bytes)
  ∧ (∀ bs a, parseGateConfig bs = some a ↔ bs = a.bytes) ∧ (∀ bs a, parseLoadFilter bs = some a ↔ bs = a.bytes)
  ∧ (∀ bs a, parseLoadFare bs = some a ↔ bs = a.bytes ∧ a.contents.length = 22)
  ∧ (∀ bs a, parseActivateBank bs = some a ↔ bs = a.bytes) ∧ (∀ bs a, parseReadEntry bs = some a ↔ bs = a.bytes)
  ∧ (∀ bs a, parseLoadSlot bs = some a ↔ bs = a.bytes) ∧ (∀ bs a, parseOpenSailing bs = some a ↔ bs = a.bytes)
  ∧ (∀ bs n, parseAckRecords bs = some n ↔ bs = num 2 n.toNat) ∧ (∀ bs b, parseOneByte bs = some b ↔ bs = [b])
  ∧ (∀ a : SetTimeArgs, a.bytes = fields [(2, a.day.toNat), (3, a.second.toNat)])
  ∧ (∀ a : SetLimitsArgs,
    a.bytes = fields [(2, a.berth0.toNat), (2, a.berth1.toNat), (2, a.berth2.toNat), (2, a.berth3.toNat)])
  ∧ (∀ a : SetParametersArgs,
    a.bytes = fields [(2, a.passageWindow.toNat), (2, a.tapWait.toNat), (2, a.overdraft.toNat), (1, a.defaultAction.toNat),
      (2, a.highMark.toNat), (2, a.passback.toNat)])
  ∧ (∀ a : SetAlertMaskArgs, a.bytes = [a.capacityReached, a.queueHigh, a.priorityMatch])
  ∧ (∀ a : GateConfigArgs, a.bytes = [a.gate, a.enabled, a.berth, a.priority, a.counting, a.lane])
  ∧ (∀ a : LoadFilterArgs,
    a.bytes = fields [(1, a.index.toNat), (1, a.action.toNat), (1, a.kind.toNat), (6, a.first.toNat), (6, a.second.toNat),
      (1, a.issuer.toNat), (1, a.slot.toNat)])
  ∧ (∀ a : LoadFareArgs, a.bytes = [a.bank, a.table, a.index] ++ a.contents)
  ∧ (∀ a : ActivateBankArgs, a.bytes = [a.bank, a.expected]) ∧ (∀ a : ReadEntryArgs, a.bytes = [a.bank, a.table, a.index])
  ∧ (∀ a : LoadSlotArgs, a.bytes = fields [(1, a.slot.toNat), (6, a.media.toNat), (1, a.limit.toNat)])
  ∧ (∀ a : OpenSailingArgs,
    a.bytes = fields [(1, a.berth.toNat), (2, a.sailing.toNat), (1, a.line.toNat), (2, a.capacity.toNat)])
  ∧ ∀ e : TableEntry, entryBytes e = fields (entryFields e)

/-! ### Laws that every step keeps -/

/-- R6, R7: each gate's mode last sent is its computed mode, after every step. -/
def Obligations.StepKeepsModesAgreed : Prop :=
  ∀ s t : State, ModesAgree s → step s = .next t → ModesAgree t

/-- R54, R126, R170, R173: the uplink lists stay within their sizes with room for every owed reply, and what waits has its
cause. -/
def Obligations.StepKeepsRoomForReplies : Prop :=
  ∀ s t : State, RoomForReplies s → WaitersHaveCause s → step s = .next t → RoomForReplies t ∧ WaitersHaveCause t

/-- R134: held records bear consecutive numbers up to the next one; R1, R60, R61, R119, R161, R163: loaded counts count, and
clock, parameters, ceilings and saturating counts stay in range. -/
def Obligations.StepKeepsNumbersAndRanges : Prop :=
  ∀ s t : State, step s = .next t →
    (NumbersRun s → NumbersRun t) ∧ (CountsLoaded s → CountsLoaded t) ∧ (ValuesInRange s → ValuesInRange t)

/-- R4, R10, R27, R136, R137: lists, the one decision and the reservations agree, and the total never exceeds 256. -/
def Obligations.StepKeepsReservations : Prop :=
  ∀ s t : State, Accounted s → step s = .next t → Accounted t

/-- R63, R66, R67, R150, R157: held places are awaiting passengers, no sailing is over its capacity or its ceiling, and no
transaction stands outside service. -/
def Obligations.StepKeepsPlaces : Prop :=
  ∀ s t : State, Accounted s → WaitersHaveCause s → ValuesInRange s → PlacesKept s → step s = .next t → PlacesKept t

/-- R104, R110: a slot's uses never exceed its limit, and a slot in flight is carried by exactly one transaction. -/
def Obligations.StepKeepsSlotUses : Prop :=
  ∀ s t : State, Accounted s → UsesKept s → step s = .next t → UsesKept t

/-- The state after reset meets every law. -/
def Obligations.ResetStateMeetsLaws : Prop :=
  ModesAgree State.reset ∧ RoomForReplies State.reset ∧ WaitersHaveCause State.reset ∧ NumbersRun State.reset
    ∧ CountsLoaded State.reset ∧ ValuesInRange State.reset ∧ Accounted State.reset ∧ PlacesKept State.reset
    ∧ UsesKept State.reset

/-- R123, R62: while a bank stays active none of its entries changes, and ceilings once set stay until a POWER or LINE
reset has brought the part out of reset. -/
def Obligations.ActiveBankAndCeilingsStand : Prop :=
  ∀ s t : State, step s = .next t →
    (∀ n, s.activeBank = some n → t.activeBank = some n → t.bank n = s.bank n)
    ∧ (∀ n, s.activeBank = some n → t.activeBank ≠ none ∨ (s.phase ≠ .running ∧ t.phase = .running ∧ t.resetCause ≠ .command))
    ∧ (∀ tops, s.ceilings = some tops →
        t.ceilings = some tops ∨ (s.phase ≠ .running ∧ t.phase = .running ∧ t.resetCause ≠ .command))
end

