-- ==== Sys2Proof/Laws/Bytes.lean ====
section
/-! SUPPORT. Fields written and read back: byte order, and every argument layout. -/
namespace Sys2Proof.Machine

@[simp] theorem beBytes_zero (v : Nat) : beBytes 0 v = [] := rfl
@[simp] theorem beBytes_succ (n v : Nat) : beBytes (n + 1) v = beBytes n (v / 256) ++ [BitVec.ofNat 8 v] := rfl

@[simp] theorem beBytes_length (n v : Nat) : (beBytes n v).length = n := by
  induction n generalizing v with
  | zero => rfl
  | succ n ih => simp [ih]

@[simp] theorem parseSetTime_bytes (a : SetTimeArgs) : parseSetTime a.bytes = some a := by
  obtain ⟨d, s⟩ := a
  simp only [parseSetTime, SetTimeArgs.bytes, field16, field24, fieldNat, natOfBytes]
  simp
  constructor <;> apply BitVec.eq_of_toNat_eq <;> simp <;> omega

@[simp] theorem parseSetLimits_bytes (a : SetLimitsArgs) : parseSetLimits a.bytes = some a := by
  obtain ⟨a, b, c, d⟩ := a
  simp only [parseSetLimits, SetLimitsArgs.bytes, field16, fieldNat, natOfBytes]
  simp
  refine ⟨?_, ?_, ?_, ?_⟩ <;> apply BitVec.eq_of_toNat_eq <;> simp <;> omega

@[simp] theorem parseSetParameters_bytes (a : SetParametersArgs) : parseSetParameters a.bytes = some a := by
  obtain ⟨a, b, c, d, e, f⟩ := a
  simp only [parseSetParameters, SetParametersArgs.bytes, field16, fieldByte, fieldNat, natOfBytes]
  simp
  refine ⟨?_, ?_, ?_, ?_, ?_⟩ <;> apply BitVec.eq_of_toNat_eq <;> simp <;> omega

@[simp] theorem parseSetAlertMask_bytes (a : SetAlertMaskArgs) : parseSetAlertMask a.bytes = some a := by
  simp [parseSetAlertMask, SetAlertMaskArgs.bytes, fieldByte, fieldNat, natOfBytes]

@[simp] theorem parseGateConfig_bytes (a : GateConfigArgs) : parseGateConfig a.bytes = some a := by
  simp [parseGateConfig, GateConfigArgs.bytes, fieldByte, fieldNat, natOfBytes]

@[simp] theorem parseLoadFilter_bytes (a : LoadFilterArgs) : parseLoadFilter a.bytes = some a := by
  obtain ⟨i, x, k, m, n, is, sl⟩ := a
  simp only [parseLoadFilter, LoadFilterArgs.bytes, field48, fieldByte, fieldNat, natOfBytes]
  simp
  constructor <;> apply BitVec.eq_of_toNat_eq <;> simp <;> omega

@[simp] theorem parseLoadFare_bytes (a : LoadFareArgs) (h : a.contents.length = 22) : parseLoadFare a.bytes = some a := by
  obtain ⟨b, t, i, c⟩ := a
  simp only at h
  simp [parseLoadFare, LoadFareArgs.bytes, fieldByte, fieldNat, natOfBytes, h]

@[simp] theorem parseOneByte_singleton (b : Byte) : parseOneByte [b] = some b := by
  simp [parseOneByte, fieldByte, fieldNat, natOfBytes]

@[simp] theorem parseActivateBank_bytes (a : ActivateBankArgs) : parseActivateBank a.bytes = some a := by
  simp [parseActivateBank, ActivateBankArgs.bytes, fieldByte, fieldNat, natOfBytes]

@[simp] theorem parseReadEntry_bytes (a : ReadEntryArgs) : parseReadEntry a.bytes = some a := by
  simp [parseReadEntry, ReadEntryArgs.bytes, fieldByte, fieldNat, natOfBytes]

@[simp] theorem parseLoadSlot_bytes (a : LoadSlotArgs) : parseLoadSlot a.bytes = some a := by
  obtain ⟨k, m, l⟩ := a
  simp only [parseLoadSlot, LoadSlotArgs.bytes, field48, fieldByte, fieldNat, natOfBytes]
  simp
  apply BitVec.eq_of_toNat_eq
  simp
  omega

@[simp] theorem parseOpenSailing_bytes (a : OpenSailingArgs) : parseOpenSailing a.bytes = some a := by
  obtain ⟨b, i, l, c⟩ := a
  simp only [parseOpenSailing, OpenSailingArgs.bytes, field16, fieldByte, fieldNat, natOfBytes]
  simp
  constructor <;> apply BitVec.eq_of_toNat_eq <;> simp <;> omega

@[simp] theorem parseAckRecords_bytes (n : SeqNumber) : parseAckRecords (beBytes 2 n.toNat) = some n := by
  simp only [parseAckRecords, field16, fieldNat, natOfBytes]
  simp
  apply BitVec.eq_of_toNat_eq
  simp
  omega

@[simp] theorem parseNothing_nil : parseNothing [] = some () := rfl
@[simp] theorem parseStatus_nil : parseStatus [] = some none := rfl

@[simp] theorem parseStatus_singleton (b : Byte) : parseStatus [b] = some (some b) := by
  simp [parseStatus, fieldByte, fieldNat, natOfBytes]

end Sys2Proof.Machine
end

