-- ==== Sys2Proof/Laws/State.lean ====
section
/-! SUPPORT. What each plain update of State leaves in each field: one lemma per field per update. -/
namespace Sys2Proof.Machine

/-! ### timeReaches -/

@[simp] theorem State.timeReaches_pending (s : State) (t : Nat) : (s.timeReaches t).pending = s.pending := rfl
@[simp] theorem State.timeReaches_gates (s : State) (t : Nat) : (s.timeReaches t).gates = s.gates := rfl
@[simp] theorem State.timeReaches_laneRx (s : State) (t : Nat) : (s.timeReaches t).laneRx = s.laneRx := rfl
@[simp] theorem State.timeReaches_laneOut (s : State) (t : Nat) : (s.timeReaches t).laneOut = s.laneOut := rfl
@[simp] theorem State.timeReaches_laneTx (s : State) (t : Nat) : (s.timeReaches t).laneTx = s.laneTx := rfl
@[simp] theorem State.timeReaches_lastGranted (s : State) (t : Nat) : (s.timeReaches t).lastGranted = s.lastGranted := rfl
@[simp] theorem State.timeReaches_engine (s : State) (t : Nat) : (s.timeReaches t).engine = s.engine := rfl
@[simp] theorem State.timeReaches_filters (s : State) (t : Nat) : (s.timeReaches t).filters = s.filters := rfl
@[simp] theorem State.timeReaches_lastPriority (s : State) (t : Nat) : (s.timeReaches t).lastPriority = s.lastPriority := rfl
@[simp] theorem State.timeReaches_waitingWrites (s : State) (t : Nat) : (s.timeReaches t).waitingWrites = s.waitingWrites := rfl
@[simp] theorem State.timeReaches_bankA (s : State) (t : Nat) : (s.timeReaches t).bankA = s.bankA := rfl
@[simp] theorem State.timeReaches_bankB (s : State) (t : Nat) : (s.timeReaches t).bankB = s.bankB := rfl
@[simp] theorem State.timeReaches_activeBank (s : State) (t : Nat) : (s.timeReaches t).activeBank = s.activeBank := rfl
@[simp] theorem State.timeReaches_waitingActivation (s : State) (t : Nat) : (s.timeReaches t).waitingActivation = s.waitingActivation := rfl
@[simp] theorem State.timeReaches_slots (s : State) (t : Nat) : (s.timeReaches t).slots = s.slots := rfl
@[simp] theorem State.timeReaches_ceilings (s : State) (t : Nat) : (s.timeReaches t).ceilings = s.ceilings := rfl
@[simp] theorem State.timeReaches_sailings (s : State) (t : Nat) : (s.timeReaches t).sailings = s.sailings := rfl
@[simp] theorem State.timeReaches_written (s : State) (t : Nat) : (s.timeReaches t).written = s.written := rfl
@[simp] theorem State.timeReaches_reserved (s : State) (t : Nat) : (s.timeReaches t).reserved = s.reserved := rfl
@[simp] theorem State.timeReaches_nextSeq (s : State) (t : Nat) : (s.timeReaches t).nextSeq = s.nextSeq := rfl
@[simp] theorem State.timeReaches_queueHighArmed (s : State) (t : Nat) : (s.timeReaches t).queueHighArmed = s.queueHighArmed := rfl
@[simp] theorem State.timeReaches_service (s : State) (t : Nat) : (s.timeReaches t).service = s.service := rfl
@[simp] theorem State.timeReaches_musterLine (s : State) (t : Nat) : (s.timeReaches t).musterLine = s.musterLine := rfl
@[simp] theorem State.timeReaches_commandRequest (s : State) (t : Nat) : (s.timeReaches t).commandRequest = s.commandRequest := rfl
@[simp] theorem State.timeReaches_params (s : State) (t : Nat) : (s.timeReaches t).params = s.params := rfl
@[simp] theorem State.timeReaches_clock (s : State) (t : Nat) : (s.timeReaches t).clock = s.clock := rfl
@[simp] theorem State.timeReaches_tenths (s : State) (t : Nat) : (s.timeReaches t).tenths = s.tenths + (t - s.timeBase) := rfl
@[simp] theorem State.timeReaches_timeBase (s : State) (t : Nat) : (s.timeReaches t).timeBase = max s.timeBase t := rfl
@[simp] theorem State.timeReaches_masks (s : State) (t : Nat) : (s.timeReaches t).masks = s.masks := rfl
@[simp] theorem State.timeReaches_resetCause (s : State) (t : Nat) : (s.timeReaches t).resetCause = s.resetCause := rfl
@[simp] theorem State.timeReaches_phase (s : State) (t : Nat) : (s.timeReaches t).phase = s.phase := rfl
@[simp] theorem State.timeReaches_resetLine (s : State) (t : Nat) : (s.timeReaches t).resetLine = s.resetLine := rfl
@[simp] theorem State.timeReaches_uplinkRx (s : State) (t : Nat) : (s.timeReaches t).uplinkRx = s.uplinkRx := rfl
@[simp] theorem State.timeReaches_receiveList (s : State) (t : Nat) : (s.timeReaches t).receiveList = s.receiveList := rfl
@[simp] theorem State.timeReaches_outgoing (s : State) (t : Nat) : (s.timeReaches t).outgoing = s.outgoing := rfl
@[simp] theorem State.timeReaches_uplinkTx (s : State) (t : Nat) : (s.timeReaches t).uplinkTx = s.uplinkTx := rfl
@[simp] theorem State.timeReaches_freeCount (s : State) (t : Nat) : (s.timeReaches t).freeCount = s.freeCount := rfl

/-! ### rollover -/

@[simp] theorem State.rollover_pending (s : State) : (s.rollover).pending = s.pending := rfl
@[simp] theorem State.rollover_gates (s : State) : (s.rollover).gates = s.gates := rfl
@[simp] theorem State.rollover_laneRx (s : State) : (s.rollover).laneRx = s.laneRx := rfl
@[simp] theorem State.rollover_laneOut (s : State) : (s.rollover).laneOut = s.laneOut := rfl
@[simp] theorem State.rollover_laneTx (s : State) : (s.rollover).laneTx = s.laneTx := rfl
@[simp] theorem State.rollover_lastGranted (s : State) : (s.rollover).lastGranted = s.lastGranted := rfl
@[simp] theorem State.rollover_engine (s : State) : (s.rollover).engine = s.engine := rfl
@[simp] theorem State.rollover_filters (s : State) : (s.rollover).filters = s.filters := rfl
@[simp] theorem State.rollover_lastPriority (s : State) : (s.rollover).lastPriority = s.lastPriority := rfl
@[simp] theorem State.rollover_waitingWrites (s : State) : (s.rollover).waitingWrites = s.waitingWrites := rfl
@[simp] theorem State.rollover_bankA (s : State) : (s.rollover).bankA = s.bankA := rfl
@[simp] theorem State.rollover_bankB (s : State) : (s.rollover).bankB = s.bankB := rfl
@[simp] theorem State.rollover_activeBank (s : State) : (s.rollover).activeBank = s.activeBank := rfl
@[simp] theorem State.rollover_waitingActivation (s : State) : (s.rollover).waitingActivation = s.waitingActivation := rfl
@[simp] theorem State.rollover_slots (s : State) : (s.rollover).slots = s.slots.map fun o => o.map PassSlot.rollover := rfl
@[simp] theorem State.rollover_ceilings (s : State) : (s.rollover).ceilings = s.ceilings := rfl
@[simp] theorem State.rollover_sailings (s : State) : (s.rollover).sailings = s.sailings := rfl
@[simp] theorem State.rollover_written (s : State) : (s.rollover).written = s.written := rfl
@[simp] theorem State.rollover_reserved (s : State) : (s.rollover).reserved = s.reserved := rfl
@[simp] theorem State.rollover_nextSeq (s : State) : (s.rollover).nextSeq = s.nextSeq := rfl
@[simp] theorem State.rollover_queueHighArmed (s : State) : (s.rollover).queueHighArmed = s.queueHighArmed := rfl
@[simp] theorem State.rollover_service (s : State) : (s.rollover).service = s.service := rfl
@[simp] theorem State.rollover_musterLine (s : State) : (s.rollover).musterLine = s.musterLine := rfl
@[simp] theorem State.rollover_commandRequest (s : State) : (s.rollover).commandRequest = s.commandRequest := rfl
@[simp] theorem State.rollover_params (s : State) : (s.rollover).params = s.params := rfl
@[simp] theorem State.rollover_clock (s : State) : (s.rollover).clock = s.clock := rfl
@[simp] theorem State.rollover_tenths (s : State) : (s.rollover).tenths = s.tenths := rfl
@[simp] theorem State.rollover_timeBase (s : State) : (s.rollover).timeBase = s.timeBase := rfl
@[simp] theorem State.rollover_masks (s : State) : (s.rollover).masks = s.masks := rfl
@[simp] theorem State.rollover_resetCause (s : State) : (s.rollover).resetCause = s.resetCause := rfl
@[simp] theorem State.rollover_phase (s : State) : (s.rollover).phase = s.phase := rfl
@[simp] theorem State.rollover_resetLine (s : State) : (s.rollover).resetLine = s.resetLine := rfl
@[simp] theorem State.rollover_uplinkRx (s : State) : (s.rollover).uplinkRx = s.uplinkRx := rfl
@[simp] theorem State.rollover_receiveList (s : State) : (s.rollover).receiveList = s.receiveList := rfl
@[simp] theorem State.rollover_outgoing (s : State) : (s.rollover).outgoing = s.outgoing := rfl
@[simp] theorem State.rollover_uplinkTx (s : State) : (s.rollover).uplinkTx = s.uplinkTx := rfl
@[simp] theorem State.rollover_freeCount (s : State) : (s.rollover).freeCount = s.freeCount := rfl

/-! ### sendLane -/

@[simp] theorem State.sendLane_pending (s : State) (g : Gate) (f : GateFrame) : (s.sendLane g f).pending = s.pending := rfl
@[simp] theorem State.sendLane_gates (s : State) (g : Gate) (f : GateFrame) : (s.sendLane g f).gates = s.gates := rfl
@[simp] theorem State.sendLane_laneRx (s : State) (g : Gate) (f : GateFrame) : (s.sendLane g f).laneRx = s.laneRx := rfl
@[simp] theorem State.sendLane_laneOut (s : State) (g : Gate) (f : GateFrame) : (s.sendLane g f).laneOut = s.laneOut.set g (s.laneOut[g] ++ [f]) := rfl
@[simp] theorem State.sendLane_laneTx (s : State) (g : Gate) (f : GateFrame) : (s.sendLane g f).laneTx = s.laneTx := rfl
@[simp] theorem State.sendLane_lastGranted (s : State) (g : Gate) (f : GateFrame) : (s.sendLane g f).lastGranted = s.lastGranted := rfl
@[simp] theorem State.sendLane_engine (s : State) (g : Gate) (f : GateFrame) : (s.sendLane g f).engine = s.engine := rfl
@[simp] theorem State.sendLane_filters (s : State) (g : Gate) (f : GateFrame) : (s.sendLane g f).filters = s.filters := rfl
@[simp] theorem State.sendLane_lastPriority (s : State) (g : Gate) (f : GateFrame) : (s.sendLane g f).lastPriority = s.lastPriority := rfl
@[simp] theorem State.sendLane_waitingWrites (s : State) (g : Gate) (f : GateFrame) : (s.sendLane g f).waitingWrites = s.waitingWrites := rfl
@[simp] theorem State.sendLane_bankA (s : State) (g : Gate) (f : GateFrame) : (s.sendLane g f).bankA = s.bankA := rfl
@[simp] theorem State.sendLane_bankB (s : State) (g : Gate) (f : GateFrame) : (s.sendLane g f).bankB = s.bankB := rfl
@[simp] theorem State.sendLane_activeBank (s : State) (g : Gate) (f : GateFrame) : (s.sendLane g f).activeBank = s.activeBank := rfl
@[simp] theorem State.sendLane_waitingActivation (s : State) (g : Gate) (f : GateFrame) : (s.sendLane g f).waitingActivation = s.waitingActivation := rfl
@[simp] theorem State.sendLane_slots (s : State) (g : Gate) (f : GateFrame) : (s.sendLane g f).slots = s.slots := rfl
@[simp] theorem State.sendLane_ceilings (s : State) (g : Gate) (f : GateFrame) : (s.sendLane g f).ceilings = s.ceilings := rfl
@[simp] theorem State.sendLane_sailings (s : State) (g : Gate) (f : GateFrame) : (s.sendLane g f).sailings = s.sailings := rfl
@[simp] theorem State.sendLane_written (s : State) (g : Gate) (f : GateFrame) : (s.sendLane g f).written = s.written := rfl
@[simp] theorem State.sendLane_reserved (s : State) (g : Gate) (f : GateFrame) : (s.sendLane g f).reserved = s.reserved := rfl
@[simp] theorem State.sendLane_nextSeq (s : State) (g : Gate) (f : GateFrame) : (s.sendLane g f).nextSeq = s.nextSeq := rfl
@[simp] theorem State.sendLane_queueHighArmed (s : State) (g : Gate) (f : GateFrame) : (s.sendLane g f).queueHighArmed = s.queueHighArmed := rfl
@[simp] theorem State.sendLane_service (s : State) (g : Gate) (f : GateFrame) : (s.sendLane g f).service = s.service := rfl
@[simp] theorem State.sendLane_musterLine (s : State) (g : Gate) (f : GateFrame) : (s.sendLane g f).musterLine = s.musterLine := rfl
@[simp] theorem State.sendLane_commandRequest (s : State) (g : Gate) (f : GateFrame) : (s.sendLane g f).commandRequest = s.commandRequest := rfl
@[simp] theorem State.sendLane_params (s : State) (g : Gate) (f : GateFrame) : (s.sendLane g f).params = s.params := rfl
@[simp] theorem State.sendLane_clock (s : State) (g : Gate) (f : GateFrame) : (s.sendLane g f).clock = s.clock := rfl
@[simp] theorem State.sendLane_tenths (s : State) (g : Gate) (f : GateFrame) : (s.sendLane g f).tenths = s.tenths := rfl
@[simp] theorem State.sendLane_timeBase (s : State) (g : Gate) (f : GateFrame) : (s.sendLane g f).timeBase = s.timeBase := rfl
@[simp] theorem State.sendLane_masks (s : State) (g : Gate) (f : GateFrame) : (s.sendLane g f).masks = s.masks := rfl
@[simp] theorem State.sendLane_resetCause (s : State) (g : Gate) (f : GateFrame) : (s.sendLane g f).resetCause = s.resetCause := rfl
@[simp] theorem State.sendLane_phase (s : State) (g : Gate) (f : GateFrame) : (s.sendLane g f).phase = s.phase := rfl
@[simp] theorem State.sendLane_resetLine (s : State) (g : Gate) (f : GateFrame) : (s.sendLane g f).resetLine = s.resetLine := rfl
@[simp] theorem State.sendLane_uplinkRx (s : State) (g : Gate) (f : GateFrame) : (s.sendLane g f).uplinkRx = s.uplinkRx := rfl
@[simp] theorem State.sendLane_receiveList (s : State) (g : Gate) (f : GateFrame) : (s.sendLane g f).receiveList = s.receiveList := rfl
@[simp] theorem State.sendLane_outgoing (s : State) (g : Gate) (f : GateFrame) : (s.sendLane g f).outgoing = s.outgoing := rfl
@[simp] theorem State.sendLane_uplinkTx (s : State) (g : Gate) (f : GateFrame) : (s.sendLane g f).uplinkTx = s.uplinkTx := rfl
@[simp] theorem State.sendLane_freeCount (s : State) (g : Gate) (f : GateFrame) : (s.sendLane g f).freeCount = s.freeCount := rfl

/-! ### produce -/

@[simp] theorem State.produce_pending (s : State) (fs : List UplinkFrame) : (s.produce fs).pending = s.pending := rfl
@[simp] theorem State.produce_gates (s : State) (fs : List UplinkFrame) : (s.produce fs).gates = s.gates := rfl
@[simp] theorem State.produce_laneRx (s : State) (fs : List UplinkFrame) : (s.produce fs).laneRx = s.laneRx := rfl
@[simp] theorem State.produce_laneOut (s : State) (fs : List UplinkFrame) : (s.produce fs).laneOut = s.laneOut := rfl
@[simp] theorem State.produce_laneTx (s : State) (fs : List UplinkFrame) : (s.produce fs).laneTx = s.laneTx := rfl
@[simp] theorem State.produce_lastGranted (s : State) (fs : List UplinkFrame) : (s.produce fs).lastGranted = s.lastGranted := rfl
@[simp] theorem State.produce_engine (s : State) (fs : List UplinkFrame) : (s.produce fs).engine = s.engine := rfl
@[simp] theorem State.produce_filters (s : State) (fs : List UplinkFrame) : (s.produce fs).filters = s.filters := rfl
@[simp] theorem State.produce_lastPriority (s : State) (fs : List UplinkFrame) : (s.produce fs).lastPriority = s.lastPriority := rfl
@[simp] theorem State.produce_waitingWrites (s : State) (fs : List UplinkFrame) : (s.produce fs).waitingWrites = s.waitingWrites := rfl
@[simp] theorem State.produce_bankA (s : State) (fs : List UplinkFrame) : (s.produce fs).bankA = s.bankA := rfl
@[simp] theorem State.produce_bankB (s : State) (fs : List UplinkFrame) : (s.produce fs).bankB = s.bankB := rfl
@[simp] theorem State.produce_activeBank (s : State) (fs : List UplinkFrame) : (s.produce fs).activeBank = s.activeBank := rfl
@[simp] theorem State.produce_waitingActivation (s : State) (fs : List UplinkFrame) : (s.produce fs).waitingActivation = s.waitingActivation := rfl
@[simp] theorem State.produce_slots (s : State) (fs : List UplinkFrame) : (s.produce fs).slots = s.slots := rfl
@[simp] theorem State.produce_ceilings (s : State) (fs : List UplinkFrame) : (s.produce fs).ceilings = s.ceilings := rfl
@[simp] theorem State.produce_sailings (s : State) (fs : List UplinkFrame) : (s.produce fs).sailings = s.sailings := rfl
@[simp] theorem State.produce_written (s : State) (fs : List UplinkFrame) : (s.produce fs).written = s.written := rfl
@[simp] theorem State.produce_reserved (s : State) (fs : List UplinkFrame) : (s.produce fs).reserved = s.reserved := rfl
@[simp] theorem State.produce_nextSeq (s : State) (fs : List UplinkFrame) : (s.produce fs).nextSeq = s.nextSeq := rfl
@[simp] theorem State.produce_queueHighArmed (s : State) (fs : List UplinkFrame) : (s.produce fs).queueHighArmed = s.queueHighArmed := rfl
@[simp] theorem State.produce_service (s : State) (fs : List UplinkFrame) : (s.produce fs).service = s.service := rfl
@[simp] theorem State.produce_musterLine (s : State) (fs : List UplinkFrame) : (s.produce fs).musterLine = s.musterLine := rfl
@[simp] theorem State.produce_commandRequest (s : State) (fs : List UplinkFrame) : (s.produce fs).commandRequest = s.commandRequest := rfl
@[simp] theorem State.produce_params (s : State) (fs : List UplinkFrame) : (s.produce fs).params = s.params := rfl
@[simp] theorem State.produce_clock (s : State) (fs : List UplinkFrame) : (s.produce fs).clock = s.clock := rfl
@[simp] theorem State.produce_tenths (s : State) (fs : List UplinkFrame) : (s.produce fs).tenths = s.tenths := rfl
@[simp] theorem State.produce_timeBase (s : State) (fs : List UplinkFrame) : (s.produce fs).timeBase = s.timeBase := rfl
@[simp] theorem State.produce_masks (s : State) (fs : List UplinkFrame) : (s.produce fs).masks = s.masks := rfl
@[simp] theorem State.produce_resetCause (s : State) (fs : List UplinkFrame) : (s.produce fs).resetCause = s.resetCause := rfl
@[simp] theorem State.produce_phase (s : State) (fs : List UplinkFrame) : (s.produce fs).phase = s.phase := rfl
@[simp] theorem State.produce_resetLine (s : State) (fs : List UplinkFrame) : (s.produce fs).resetLine = s.resetLine := rfl
@[simp] theorem State.produce_uplinkRx (s : State) (fs : List UplinkFrame) : (s.produce fs).uplinkRx = s.uplinkRx := rfl
@[simp] theorem State.produce_receiveList (s : State) (fs : List UplinkFrame) : (s.produce fs).receiveList = s.receiveList := rfl
@[simp] theorem State.produce_outgoing (s : State) (fs : List UplinkFrame) : (s.produce fs).outgoing = s.outgoing ++ fs := rfl
@[simp] theorem State.produce_uplinkTx (s : State) (fs : List UplinkFrame) : (s.produce fs).uplinkTx = s.uplinkTx := rfl
@[simp] theorem State.produce_freeCount (s : State) (fs : List UplinkFrame) : (s.produce fs).freeCount = s.freeCount := rfl

/-! ### setGate -/

@[simp] theorem State.setGate_pending (s : State) (g : Gate) (c : GateContext) : (s.setGate g c).pending = s.pending := rfl
@[simp] theorem State.setGate_gates (s : State) (g : Gate) (c : GateContext) : (s.setGate g c).gates = s.gates.set g c := rfl
@[simp] theorem State.setGate_laneRx (s : State) (g : Gate) (c : GateContext) : (s.setGate g c).laneRx = s.laneRx := rfl
@[simp] theorem State.setGate_laneOut (s : State) (g : Gate) (c : GateContext) : (s.setGate g c).laneOut = s.laneOut := rfl
@[simp] theorem State.setGate_laneTx (s : State) (g : Gate) (c : GateContext) : (s.setGate g c).laneTx = s.laneTx := rfl
@[simp] theorem State.setGate_lastGranted (s : State) (g : Gate) (c : GateContext) : (s.setGate g c).lastGranted = s.lastGranted := rfl
@[simp] theorem State.setGate_engine (s : State) (g : Gate) (c : GateContext) : (s.setGate g c).engine = s.engine := rfl
@[simp] theorem State.setGate_filters (s : State) (g : Gate) (c : GateContext) : (s.setGate g c).filters = s.filters := rfl
@[simp] theorem State.setGate_lastPriority (s : State) (g : Gate) (c : GateContext) : (s.setGate g c).lastPriority = s.lastPriority := rfl
@[simp] theorem State.setGate_waitingWrites (s : State) (g : Gate) (c : GateContext) : (s.setGate g c).waitingWrites = s.waitingWrites := rfl
@[simp] theorem State.setGate_bankA (s : State) (g : Gate) (c : GateContext) : (s.setGate g c).bankA = s.bankA := rfl
@[simp] theorem State.setGate_bankB (s : State) (g : Gate) (c : GateContext) : (s.setGate g c).bankB = s.bankB := rfl
@[simp] theorem State.setGate_activeBank (s : State) (g : Gate) (c : GateContext) : (s.setGate g c).activeBank = s.activeBank := rfl
@[simp] theorem State.setGate_waitingActivation (s : State) (g : Gate) (c : GateContext) : (s.setGate g c).waitingActivation = s.waitingActivation := rfl
@[simp] theorem State.setGate_slots (s : State) (g : Gate) (c : GateContext) : (s.setGate g c).slots = s.slots := rfl
@[simp] theorem State.setGate_ceilings (s : State) (g : Gate) (c : GateContext) : (s.setGate g c).ceilings = s.ceilings := rfl
@[simp] theorem State.setGate_sailings (s : State) (g : Gate) (c : GateContext) : (s.setGate g c).sailings = s.sailings := rfl
@[simp] theorem State.setGate_written (s : State) (g : Gate) (c : GateContext) : (s.setGate g c).written = s.written := rfl
@[simp] theorem State.setGate_reserved (s : State) (g : Gate) (c : GateContext) : (s.setGate g c).reserved = s.reserved := rfl
@[simp] theorem State.setGate_nextSeq (s : State) (g : Gate) (c : GateContext) : (s.setGate g c).nextSeq = s.nextSeq := rfl
@[simp] theorem State.setGate_queueHighArmed (s : State) (g : Gate) (c : GateContext) : (s.setGate g c).queueHighArmed = s.queueHighArmed := rfl
@[simp] theorem State.setGate_service (s : State) (g : Gate) (c : GateContext) : (s.setGate g c).service = s.service := rfl
@[simp] theorem State.setGate_musterLine (s : State) (g : Gate) (c : GateContext) : (s.setGate g c).musterLine = s.musterLine := rfl
@[simp] theorem State.setGate_commandRequest (s : State) (g : Gate) (c : GateContext) : (s.setGate g c).commandRequest = s.commandRequest := rfl
@[simp] theorem State.setGate_params (s : State) (g : Gate) (c : GateContext) : (s.setGate g c).params = s.params := rfl
@[simp] theorem State.setGate_clock (s : State) (g : Gate) (c : GateContext) : (s.setGate g c).clock = s.clock := rfl
@[simp] theorem State.setGate_tenths (s : State) (g : Gate) (c : GateContext) : (s.setGate g c).tenths = s.tenths := rfl
@[simp] theorem State.setGate_timeBase (s : State) (g : Gate) (c : GateContext) : (s.setGate g c).timeBase = s.timeBase := rfl
@[simp] theorem State.setGate_masks (s : State) (g : Gate) (c : GateContext) : (s.setGate g c).masks = s.masks := rfl
@[simp] theorem State.setGate_resetCause (s : State) (g : Gate) (c : GateContext) : (s.setGate g c).resetCause = s.resetCause := rfl
@[simp] theorem State.setGate_phase (s : State) (g : Gate) (c : GateContext) : (s.setGate g c).phase = s.phase := rfl
@[simp] theorem State.setGate_resetLine (s : State) (g : Gate) (c : GateContext) : (s.setGate g c).resetLine = s.resetLine := rfl
@[simp] theorem State.setGate_uplinkRx (s : State) (g : Gate) (c : GateContext) : (s.setGate g c).uplinkRx = s.uplinkRx := rfl
@[simp] theorem State.setGate_receiveList (s : State) (g : Gate) (c : GateContext) : (s.setGate g c).receiveList = s.receiveList := rfl
@[simp] theorem State.setGate_outgoing (s : State) (g : Gate) (c : GateContext) : (s.setGate g c).outgoing = s.outgoing := rfl
@[simp] theorem State.setGate_uplinkTx (s : State) (g : Gate) (c : GateContext) : (s.setGate g c).uplinkTx = s.uplinkTx := rfl
@[simp] theorem State.setGate_freeCount (s : State) (g : Gate) (c : GateContext) : (s.setGate g c).freeCount = s.freeCount := rfl

/-! ### setSailing -/

@[simp] theorem State.setSailing_pending (s : State) (b : BerthNo) (o : Option Sailing) : (s.setSailing b o).pending = s.pending := rfl
@[simp] theorem State.setSailing_gates (s : State) (b : BerthNo) (o : Option Sailing) : (s.setSailing b o).gates = s.gates := rfl
@[simp] theorem State.setSailing_laneRx (s : State) (b : BerthNo) (o : Option Sailing) : (s.setSailing b o).laneRx = s.laneRx := rfl
@[simp] theorem State.setSailing_laneOut (s : State) (b : BerthNo) (o : Option Sailing) : (s.setSailing b o).laneOut = s.laneOut := rfl
@[simp] theorem State.setSailing_laneTx (s : State) (b : BerthNo) (o : Option Sailing) : (s.setSailing b o).laneTx = s.laneTx := rfl
@[simp] theorem State.setSailing_lastGranted (s : State) (b : BerthNo) (o : Option Sailing) : (s.setSailing b o).lastGranted = s.lastGranted := rfl
@[simp] theorem State.setSailing_engine (s : State) (b : BerthNo) (o : Option Sailing) : (s.setSailing b o).engine = s.engine := rfl
@[simp] theorem State.setSailing_filters (s : State) (b : BerthNo) (o : Option Sailing) : (s.setSailing b o).filters = s.filters := rfl
@[simp] theorem State.setSailing_lastPriority (s : State) (b : BerthNo) (o : Option Sailing) : (s.setSailing b o).lastPriority = s.lastPriority := rfl
@[simp] theorem State.setSailing_waitingWrites (s : State) (b : BerthNo) (o : Option Sailing) : (s.setSailing b o).waitingWrites = s.waitingWrites := rfl
@[simp] theorem State.setSailing_bankA (s : State) (b : BerthNo) (o : Option Sailing) : (s.setSailing b o).bankA = s.bankA := rfl
@[simp] theorem State.setSailing_bankB (s : State) (b : BerthNo) (o : Option Sailing) : (s.setSailing b o).bankB = s.bankB := rfl
@[simp] theorem State.setSailing_activeBank (s : State) (b : BerthNo) (o : Option Sailing) : (s.setSailing b o).activeBank = s.activeBank := rfl
@[simp] theorem State.setSailing_waitingActivation (s : State) (b : BerthNo) (o : Option Sailing) : (s.setSailing b o).waitingActivation = s.waitingActivation := rfl
@[simp] theorem State.setSailing_slots (s : State) (b : BerthNo) (o : Option Sailing) : (s.setSailing b o).slots = s.slots := rfl
@[simp] theorem State.setSailing_ceilings (s : State) (b : BerthNo) (o : Option Sailing) : (s.setSailing b o).ceilings = s.ceilings := rfl
@[simp] theorem State.setSailing_sailings (s : State) (b : BerthNo) (o : Option Sailing) : (s.setSailing b o).sailings = s.sailings.set b o := rfl
@[simp] theorem State.setSailing_written (s : State) (b : BerthNo) (o : Option Sailing) : (s.setSailing b o).written = s.written := rfl
@[simp] theorem State.setSailing_reserved (s : State) (b : BerthNo) (o : Option Sailing) : (s.setSailing b o).reserved = s.reserved := rfl
@[simp] theorem State.setSailing_nextSeq (s : State) (b : BerthNo) (o : Option Sailing) : (s.setSailing b o).nextSeq = s.nextSeq := rfl
@[simp] theorem State.setSailing_queueHighArmed (s : State) (b : BerthNo) (o : Option Sailing) : (s.setSailing b o).queueHighArmed = s.queueHighArmed := rfl
@[simp] theorem State.setSailing_service (s : State) (b : BerthNo) (o : Option Sailing) : (s.setSailing b o).service = s.service := rfl
@[simp] theorem State.setSailing_musterLine (s : State) (b : BerthNo) (o : Option Sailing) : (s.setSailing b o).musterLine = s.musterLine := rfl
@[simp] theorem State.setSailing_commandRequest (s : State) (b : BerthNo) (o : Option Sailing) : (s.setSailing b o).commandRequest = s.commandRequest := rfl
@[simp] theorem State.setSailing_params (s : State) (b : BerthNo) (o : Option Sailing) : (s.setSailing b o).params = s.params := rfl
@[simp] theorem State.setSailing_clock (s : State) (b : BerthNo) (o : Option Sailing) : (s.setSailing b o).clock = s.clock := rfl
@[simp] theorem State.setSailing_tenths (s : State) (b : BerthNo) (o : Option Sailing) : (s.setSailing b o).tenths = s.tenths := rfl
@[simp] theorem State.setSailing_timeBase (s : State) (b : BerthNo) (o : Option Sailing) : (s.setSailing b o).timeBase = s.timeBase := rfl
@[simp] theorem State.setSailing_masks (s : State) (b : BerthNo) (o : Option Sailing) : (s.setSailing b o).masks = s.masks := rfl
@[simp] theorem State.setSailing_resetCause (s : State) (b : BerthNo) (o : Option Sailing) : (s.setSailing b o).resetCause = s.resetCause := rfl
@[simp] theorem State.setSailing_phase (s : State) (b : BerthNo) (o : Option Sailing) : (s.setSailing b o).phase = s.phase := rfl
@[simp] theorem State.setSailing_resetLine (s : State) (b : BerthNo) (o : Option Sailing) : (s.setSailing b o).resetLine = s.resetLine := rfl
@[simp] theorem State.setSailing_uplinkRx (s : State) (b : BerthNo) (o : Option Sailing) : (s.setSailing b o).uplinkRx = s.uplinkRx := rfl
@[simp] theorem State.setSailing_receiveList (s : State) (b : BerthNo) (o : Option Sailing) : (s.setSailing b o).receiveList = s.receiveList := rfl
@[simp] theorem State.setSailing_outgoing (s : State) (b : BerthNo) (o : Option Sailing) : (s.setSailing b o).outgoing = s.outgoing := rfl
@[simp] theorem State.setSailing_uplinkTx (s : State) (b : BerthNo) (o : Option Sailing) : (s.setSailing b o).uplinkTx = s.uplinkTx := rfl
@[simp] theorem State.setSailing_freeCount (s : State) (b : BerthNo) (o : Option Sailing) : (s.setSailing b o).freeCount = s.freeCount := rfl

/-! ### setSlot -/

@[simp] theorem State.setSlot_pending (s : State) (k : SlotNo) (o : Option PassSlot) : (s.setSlot k o).pending = s.pending := rfl
@[simp] theorem State.setSlot_gates (s : State) (k : SlotNo) (o : Option PassSlot) : (s.setSlot k o).gates = s.gates := rfl
@[simp] theorem State.setSlot_laneRx (s : State) (k : SlotNo) (o : Option PassSlot) : (s.setSlot k o).laneRx = s.laneRx := rfl
@[simp] theorem State.setSlot_laneOut (s : State) (k : SlotNo) (o : Option PassSlot) : (s.setSlot k o).laneOut = s.laneOut := rfl
@[simp] theorem State.setSlot_laneTx (s : State) (k : SlotNo) (o : Option PassSlot) : (s.setSlot k o).laneTx = s.laneTx := rfl
@[simp] theorem State.setSlot_lastGranted (s : State) (k : SlotNo) (o : Option PassSlot) : (s.setSlot k o).lastGranted = s.lastGranted := rfl
@[simp] theorem State.setSlot_engine (s : State) (k : SlotNo) (o : Option PassSlot) : (s.setSlot k o).engine = s.engine := rfl
@[simp] theorem State.setSlot_filters (s : State) (k : SlotNo) (o : Option PassSlot) : (s.setSlot k o).filters = s.filters := rfl
@[simp] theorem State.setSlot_lastPriority (s : State) (k : SlotNo) (o : Option PassSlot) : (s.setSlot k o).lastPriority = s.lastPriority := rfl
@[simp] theorem State.setSlot_waitingWrites (s : State) (k : SlotNo) (o : Option PassSlot) : (s.setSlot k o).waitingWrites = s.waitingWrites := rfl
@[simp] theorem State.setSlot_bankA (s : State) (k : SlotNo) (o : Option PassSlot) : (s.setSlot k o).bankA = s.bankA := rfl
@[simp] theorem State.setSlot_bankB (s : State) (k : SlotNo) (o : Option PassSlot) : (s.setSlot k o).bankB = s.bankB := rfl
@[simp] theorem State.setSlot_activeBank (s : State) (k : SlotNo) (o : Option PassSlot) : (s.setSlot k o).activeBank = s.activeBank := rfl
@[simp] theorem State.setSlot_waitingActivation (s : State) (k : SlotNo) (o : Option PassSlot) : (s.setSlot k o).waitingActivation = s.waitingActivation := rfl
@[simp] theorem State.setSlot_slots (s : State) (k : SlotNo) (o : Option PassSlot) : (s.setSlot k o).slots = s.slots.set k o := rfl
@[simp] theorem State.setSlot_ceilings (s : State) (k : SlotNo) (o : Option PassSlot) : (s.setSlot k o).ceilings = s.ceilings := rfl
@[simp] theorem State.setSlot_sailings (s : State) (k : SlotNo) (o : Option PassSlot) : (s.setSlot k o).sailings = s.sailings := rfl
@[simp] theorem State.setSlot_written (s : State) (k : SlotNo) (o : Option PassSlot) : (s.setSlot k o).written = s.written := rfl
@[simp] theorem State.setSlot_reserved (s : State) (k : SlotNo) (o : Option PassSlot) : (s.setSlot k o).reserved = s.reserved := rfl
@[simp] theorem State.setSlot_nextSeq (s : State) (k : SlotNo) (o : Option PassSlot) : (s.setSlot k o).nextSeq = s.nextSeq := rfl
@[simp] theorem State.setSlot_queueHighArmed (s : State) (k : SlotNo) (o : Option PassSlot) : (s.setSlot k o).queueHighArmed = s.queueHighArmed := rfl
@[simp] theorem State.setSlot_service (s : State) (k : SlotNo) (o : Option PassSlot) : (s.setSlot k o).service = s.service := rfl
@[simp] theorem State.setSlot_musterLine (s : State) (k : SlotNo) (o : Option PassSlot) : (s.setSlot k o).musterLine = s.musterLine := rfl
@[simp] theorem State.setSlot_commandRequest (s : State) (k : SlotNo) (o : Option PassSlot) : (s.setSlot k o).commandRequest = s.commandRequest := rfl
@[simp] theorem State.setSlot_params (s : State) (k : SlotNo) (o : Option PassSlot) : (s.setSlot k o).params = s.params := rfl
@[simp] theorem State.setSlot_clock (s : State) (k : SlotNo) (o : Option PassSlot) : (s.setSlot k o).clock = s.clock := rfl
@[simp] theorem State.setSlot_tenths (s : State) (k : SlotNo) (o : Option PassSlot) : (s.setSlot k o).tenths = s.tenths := rfl
@[simp] theorem State.setSlot_timeBase (s : State) (k : SlotNo) (o : Option PassSlot) : (s.setSlot k o).timeBase = s.timeBase := rfl
@[simp] theorem State.setSlot_masks (s : State) (k : SlotNo) (o : Option PassSlot) : (s.setSlot k o).masks = s.masks := rfl
@[simp] theorem State.setSlot_resetCause (s : State) (k : SlotNo) (o : Option PassSlot) : (s.setSlot k o).resetCause = s.resetCause := rfl
@[simp] theorem State.setSlot_phase (s : State) (k : SlotNo) (o : Option PassSlot) : (s.setSlot k o).phase = s.phase := rfl
@[simp] theorem State.setSlot_resetLine (s : State) (k : SlotNo) (o : Option PassSlot) : (s.setSlot k o).resetLine = s.resetLine := rfl
@[simp] theorem State.setSlot_uplinkRx (s : State) (k : SlotNo) (o : Option PassSlot) : (s.setSlot k o).uplinkRx = s.uplinkRx := rfl
@[simp] theorem State.setSlot_receiveList (s : State) (k : SlotNo) (o : Option PassSlot) : (s.setSlot k o).receiveList = s.receiveList := rfl
@[simp] theorem State.setSlot_outgoing (s : State) (k : SlotNo) (o : Option PassSlot) : (s.setSlot k o).outgoing = s.outgoing := rfl
@[simp] theorem State.setSlot_uplinkTx (s : State) (k : SlotNo) (o : Option PassSlot) : (s.setSlot k o).uplinkTx = s.uplinkTx := rfl
@[simp] theorem State.setSlot_freeCount (s : State) (k : SlotNo) (o : Option PassSlot) : (s.setSlot k o).freeCount = s.freeCount := rfl

/-! ### setEngine -/

@[simp] theorem State.setEngine_pending (s : State) (d : Decision) : (s.setEngine d).pending = s.pending := rfl
@[simp] theorem State.setEngine_gates (s : State) (d : Decision) : (s.setEngine d).gates = s.gates := rfl
@[simp] theorem State.setEngine_laneRx (s : State) (d : Decision) : (s.setEngine d).laneRx = s.laneRx := rfl
@[simp] theorem State.setEngine_laneOut (s : State) (d : Decision) : (s.setEngine d).laneOut = s.laneOut := rfl
@[simp] theorem State.setEngine_laneTx (s : State) (d : Decision) : (s.setEngine d).laneTx = s.laneTx := rfl
@[simp] theorem State.setEngine_lastGranted (s : State) (d : Decision) : (s.setEngine d).lastGranted = s.lastGranted := rfl
@[simp] theorem State.setEngine_engine (s : State) (d : Decision) : (s.setEngine d).engine = some d := rfl
@[simp] theorem State.setEngine_filters (s : State) (d : Decision) : (s.setEngine d).filters = s.filters := rfl
@[simp] theorem State.setEngine_lastPriority (s : State) (d : Decision) : (s.setEngine d).lastPriority = s.lastPriority := rfl
@[simp] theorem State.setEngine_waitingWrites (s : State) (d : Decision) : (s.setEngine d).waitingWrites = s.waitingWrites := rfl
@[simp] theorem State.setEngine_bankA (s : State) (d : Decision) : (s.setEngine d).bankA = s.bankA := rfl
@[simp] theorem State.setEngine_bankB (s : State) (d : Decision) : (s.setEngine d).bankB = s.bankB := rfl
@[simp] theorem State.setEngine_activeBank (s : State) (d : Decision) : (s.setEngine d).activeBank = s.activeBank := rfl
@[simp] theorem State.setEngine_waitingActivation (s : State) (d : Decision) : (s.setEngine d).waitingActivation = s.waitingActivation := rfl
@[simp] theorem State.setEngine_slots (s : State) (d : Decision) : (s.setEngine d).slots = s.slots := rfl
@[simp] theorem State.setEngine_ceilings (s : State) (d : Decision) : (s.setEngine d).ceilings = s.ceilings := rfl
@[simp] theorem State.setEngine_sailings (s : State) (d : Decision) : (s.setEngine d).sailings = s.sailings := rfl
@[simp] theorem State.setEngine_written (s : State) (d : Decision) : (s.setEngine d).written = s.written := rfl
@[simp] theorem State.setEngine_reserved (s : State) (d : Decision) : (s.setEngine d).reserved = s.reserved := rfl
@[simp] theorem State.setEngine_nextSeq (s : State) (d : Decision) : (s.setEngine d).nextSeq = s.nextSeq := rfl
@[simp] theorem State.setEngine_queueHighArmed (s : State) (d : Decision) : (s.setEngine d).queueHighArmed = s.queueHighArmed := rfl
@[simp] theorem State.setEngine_service (s : State) (d : Decision) : (s.setEngine d).service = s.service := rfl
@[simp] theorem State.setEngine_musterLine (s : State) (d : Decision) : (s.setEngine d).musterLine = s.musterLine := rfl
@[simp] theorem State.setEngine_commandRequest (s : State) (d : Decision) : (s.setEngine d).commandRequest = s.commandRequest := rfl
@[simp] theorem State.setEngine_params (s : State) (d : Decision) : (s.setEngine d).params = s.params := rfl
@[simp] theorem State.setEngine_clock (s : State) (d : Decision) : (s.setEngine d).clock = s.clock := rfl
@[simp] theorem State.setEngine_tenths (s : State) (d : Decision) : (s.setEngine d).tenths = s.tenths := rfl
@[simp] theorem State.setEngine_timeBase (s : State) (d : Decision) : (s.setEngine d).timeBase = s.timeBase := rfl
@[simp] theorem State.setEngine_masks (s : State) (d : Decision) : (s.setEngine d).masks = s.masks := rfl
@[simp] theorem State.setEngine_resetCause (s : State) (d : Decision) : (s.setEngine d).resetCause = s.resetCause := rfl
@[simp] theorem State.setEngine_phase (s : State) (d : Decision) : (s.setEngine d).phase = s.phase := rfl
@[simp] theorem State.setEngine_resetLine (s : State) (d : Decision) : (s.setEngine d).resetLine = s.resetLine := rfl
@[simp] theorem State.setEngine_uplinkRx (s : State) (d : Decision) : (s.setEngine d).uplinkRx = s.uplinkRx := rfl
@[simp] theorem State.setEngine_receiveList (s : State) (d : Decision) : (s.setEngine d).receiveList = s.receiveList := rfl
@[simp] theorem State.setEngine_outgoing (s : State) (d : Decision) : (s.setEngine d).outgoing = s.outgoing := rfl
@[simp] theorem State.setEngine_uplinkTx (s : State) (d : Decision) : (s.setEngine d).uplinkTx = s.uplinkTx := rfl
@[simp] theorem State.setEngine_freeCount (s : State) (d : Decision) : (s.setEngine d).freeCount = s.freeCount := rfl

/-! ### writeRecord -/

@[simp] theorem State.writeRecord_pending (s : State) (b : RecordBody) : (s.writeRecord b).pending = s.pending := rfl
@[simp] theorem State.writeRecord_gates (s : State) (b : RecordBody) : (s.writeRecord b).gates = s.gates := rfl
@[simp] theorem State.writeRecord_laneRx (s : State) (b : RecordBody) : (s.writeRecord b).laneRx = s.laneRx := rfl
@[simp] theorem State.writeRecord_laneOut (s : State) (b : RecordBody) : (s.writeRecord b).laneOut = s.laneOut := rfl
@[simp] theorem State.writeRecord_laneTx (s : State) (b : RecordBody) : (s.writeRecord b).laneTx = s.laneTx := rfl
@[simp] theorem State.writeRecord_lastGranted (s : State) (b : RecordBody) : (s.writeRecord b).lastGranted = s.lastGranted := rfl
@[simp] theorem State.writeRecord_engine (s : State) (b : RecordBody) : (s.writeRecord b).engine = s.engine := rfl
@[simp] theorem State.writeRecord_filters (s : State) (b : RecordBody) : (s.writeRecord b).filters = s.filters := rfl
@[simp] theorem State.writeRecord_lastPriority (s : State) (b : RecordBody) : (s.writeRecord b).lastPriority = s.lastPriority := rfl
@[simp] theorem State.writeRecord_waitingWrites (s : State) (b : RecordBody) : (s.writeRecord b).waitingWrites = s.waitingWrites := rfl
@[simp] theorem State.writeRecord_bankA (s : State) (b : RecordBody) : (s.writeRecord b).bankA = s.bankA := rfl
@[simp] theorem State.writeRecord_bankB (s : State) (b : RecordBody) : (s.writeRecord b).bankB = s.bankB := rfl
@[simp] theorem State.writeRecord_activeBank (s : State) (b : RecordBody) : (s.writeRecord b).activeBank = s.activeBank := rfl
@[simp] theorem State.writeRecord_waitingActivation (s : State) (b : RecordBody) : (s.writeRecord b).waitingActivation = s.waitingActivation := rfl
@[simp] theorem State.writeRecord_slots (s : State) (b : RecordBody) : (s.writeRecord b).slots = s.slots := rfl
@[simp] theorem State.writeRecord_ceilings (s : State) (b : RecordBody) : (s.writeRecord b).ceilings = s.ceilings := rfl
@[simp] theorem State.writeRecord_sailings (s : State) (b : RecordBody) : (s.writeRecord b).sailings = s.sailings := rfl
@[simp] theorem State.writeRecord_written (s : State) (b : RecordBody) : (s.writeRecord b).written = s.written ++ [⟨s.nextSeq, b⟩] := rfl
@[simp] theorem State.writeRecord_reserved (s : State) (b : RecordBody) : (s.writeRecord b).reserved = s.reserved - 1 := rfl
@[simp] theorem State.writeRecord_nextSeq (s : State) (b : RecordBody) : (s.writeRecord b).nextSeq = s.nextSeq + 1 := rfl
@[simp] theorem State.writeRecord_queueHighArmed (s : State) (b : RecordBody) : (s.writeRecord b).queueHighArmed = s.queueHighArmed := rfl
@[simp] theorem State.writeRecord_service (s : State) (b : RecordBody) : (s.writeRecord b).service = s.service := rfl
@[simp] theorem State.writeRecord_musterLine (s : State) (b : RecordBody) : (s.writeRecord b).musterLine = s.musterLine := rfl
@[simp] theorem State.writeRecord_commandRequest (s : State) (b : RecordBody) : (s.writeRecord b).commandRequest = s.commandRequest := rfl
@[simp] theorem State.writeRecord_params (s : State) (b : RecordBody) : (s.writeRecord b).params = s.params := rfl
@[simp] theorem State.writeRecord_clock (s : State) (b : RecordBody) : (s.writeRecord b).clock = s.clock := rfl
@[simp] theorem State.writeRecord_tenths (s : State) (b : RecordBody) : (s.writeRecord b).tenths = s.tenths := rfl
@[simp] theorem State.writeRecord_timeBase (s : State) (b : RecordBody) : (s.writeRecord b).timeBase = s.timeBase := rfl
@[simp] theorem State.writeRecord_masks (s : State) (b : RecordBody) : (s.writeRecord b).masks = s.masks := rfl
@[simp] theorem State.writeRecord_resetCause (s : State) (b : RecordBody) : (s.writeRecord b).resetCause = s.resetCause := rfl
@[simp] theorem State.writeRecord_phase (s : State) (b : RecordBody) : (s.writeRecord b).phase = s.phase := rfl
@[simp] theorem State.writeRecord_resetLine (s : State) (b : RecordBody) : (s.writeRecord b).resetLine = s.resetLine := rfl
@[simp] theorem State.writeRecord_uplinkRx (s : State) (b : RecordBody) : (s.writeRecord b).uplinkRx = s.uplinkRx := rfl
@[simp] theorem State.writeRecord_receiveList (s : State) (b : RecordBody) : (s.writeRecord b).receiveList = s.receiveList := rfl
@[simp] theorem State.writeRecord_outgoing (s : State) (b : RecordBody) : (s.writeRecord b).outgoing = s.outgoing := rfl
@[simp] theorem State.writeRecord_uplinkTx (s : State) (b : RecordBody) : (s.writeRecord b).uplinkTx = s.uplinkTx := rfl
@[simp] theorem State.writeRecord_freeCount (s : State) (b : RecordBody) : (s.writeRecord b).freeCount = s.freeCount := rfl

/-! ### dropCrewMarkers -/

@[simp] theorem State.dropCrewMarkers_pending (s : State) (b : BerthNo) : (s.dropCrewMarkers b).pending = s.pending := rfl
@[simp] theorem State.dropCrewMarkers_gates (s : State) (b : BerthNo) : (s.dropCrewMarkers b).gates = s.gates.map fun c => if c.config.berth = some b then { c with list := c.list.map Transaction.markerDropped } else c := rfl
@[simp] theorem State.dropCrewMarkers_laneRx (s : State) (b : BerthNo) : (s.dropCrewMarkers b).laneRx = s.laneRx := rfl
@[simp] theorem State.dropCrewMarkers_laneOut (s : State) (b : BerthNo) : (s.dropCrewMarkers b).laneOut = s.laneOut := rfl
@[simp] theorem State.dropCrewMarkers_laneTx (s : State) (b : BerthNo) : (s.dropCrewMarkers b).laneTx = s.laneTx := rfl
@[simp] theorem State.dropCrewMarkers_lastGranted (s : State) (b : BerthNo) : (s.dropCrewMarkers b).lastGranted = s.lastGranted := rfl
@[simp] theorem State.dropCrewMarkers_engine (s : State) (b : BerthNo) : (s.dropCrewMarkers b).engine = s.engine := rfl
@[simp] theorem State.dropCrewMarkers_filters (s : State) (b : BerthNo) : (s.dropCrewMarkers b).filters = s.filters := rfl
@[simp] theorem State.dropCrewMarkers_lastPriority (s : State) (b : BerthNo) : (s.dropCrewMarkers b).lastPriority = s.lastPriority := rfl
@[simp] theorem State.dropCrewMarkers_waitingWrites (s : State) (b : BerthNo) : (s.dropCrewMarkers b).waitingWrites = s.waitingWrites := rfl
@[simp] theorem State.dropCrewMarkers_bankA (s : State) (b : BerthNo) : (s.dropCrewMarkers b).bankA = s.bankA := rfl
@[simp] theorem State.dropCrewMarkers_bankB (s : State) (b : BerthNo) : (s.dropCrewMarkers b).bankB = s.bankB := rfl
@[simp] theorem State.dropCrewMarkers_activeBank (s : State) (b : BerthNo) : (s.dropCrewMarkers b).activeBank = s.activeBank := rfl
@[simp] theorem State.dropCrewMarkers_waitingActivation (s : State) (b : BerthNo) : (s.dropCrewMarkers b).waitingActivation = s.waitingActivation := rfl
@[simp] theorem State.dropCrewMarkers_slots (s : State) (b : BerthNo) : (s.dropCrewMarkers b).slots = s.slots := rfl
@[simp] theorem State.dropCrewMarkers_ceilings (s : State) (b : BerthNo) : (s.dropCrewMarkers b).ceilings = s.ceilings := rfl
@[simp] theorem State.dropCrewMarkers_sailings (s : State) (b : BerthNo) : (s.dropCrewMarkers b).sailings = s.sailings := rfl
@[simp] theorem State.dropCrewMarkers_written (s : State) (b : BerthNo) : (s.dropCrewMarkers b).written = s.written := rfl
@[simp] theorem State.dropCrewMarkers_reserved (s : State) (b : BerthNo) : (s.dropCrewMarkers b).reserved = s.reserved := rfl
@[simp] theorem State.dropCrewMarkers_nextSeq (s : State) (b : BerthNo) : (s.dropCrewMarkers b).nextSeq = s.nextSeq := rfl
@[simp] theorem State.dropCrewMarkers_queueHighArmed (s : State) (b : BerthNo) : (s.dropCrewMarkers b).queueHighArmed = s.queueHighArmed := rfl
@[simp] theorem State.dropCrewMarkers_service (s : State) (b : BerthNo) : (s.dropCrewMarkers b).service = s.service := rfl
@[simp] theorem State.dropCrewMarkers_musterLine (s : State) (b : BerthNo) : (s.dropCrewMarkers b).musterLine = s.musterLine := rfl
@[simp] theorem State.dropCrewMarkers_commandRequest (s : State) (b : BerthNo) : (s.dropCrewMarkers b).commandRequest = s.commandRequest := rfl
@[simp] theorem State.dropCrewMarkers_params (s : State) (b : BerthNo) : (s.dropCrewMarkers b).params = s.params := rfl
@[simp] theorem State.dropCrewMarkers_clock (s : State) (b : BerthNo) : (s.dropCrewMarkers b).clock = s.clock := rfl
@[simp] theorem State.dropCrewMarkers_tenths (s : State) (b : BerthNo) : (s.dropCrewMarkers b).tenths = s.tenths := rfl
@[simp] theorem State.dropCrewMarkers_timeBase (s : State) (b : BerthNo) : (s.dropCrewMarkers b).timeBase = s.timeBase := rfl
@[simp] theorem State.dropCrewMarkers_masks (s : State) (b : BerthNo) : (s.dropCrewMarkers b).masks = s.masks := rfl
@[simp] theorem State.dropCrewMarkers_resetCause (s : State) (b : BerthNo) : (s.dropCrewMarkers b).resetCause = s.resetCause := rfl
@[simp] theorem State.dropCrewMarkers_phase (s : State) (b : BerthNo) : (s.dropCrewMarkers b).phase = s.phase := rfl
@[simp] theorem State.dropCrewMarkers_resetLine (s : State) (b : BerthNo) : (s.dropCrewMarkers b).resetLine = s.resetLine := rfl
@[simp] theorem State.dropCrewMarkers_uplinkRx (s : State) (b : BerthNo) : (s.dropCrewMarkers b).uplinkRx = s.uplinkRx := rfl
@[simp] theorem State.dropCrewMarkers_receiveList (s : State) (b : BerthNo) : (s.dropCrewMarkers b).receiveList = s.receiveList := rfl
@[simp] theorem State.dropCrewMarkers_outgoing (s : State) (b : BerthNo) : (s.dropCrewMarkers b).outgoing = s.outgoing := rfl
@[simp] theorem State.dropCrewMarkers_uplinkTx (s : State) (b : BerthNo) : (s.dropCrewMarkers b).uplinkTx = s.uplinkTx := rfl
@[simp] theorem State.dropCrewMarkers_freeCount (s : State) (b : BerthNo) : (s.dropCrewMarkers b).freeCount = s.freeCount := rfl

end Sys2Proof.Machine
end

