-- ==== Sys2Proof/Laws/Ops.lean ====
section
/-! SUPPORT. What each shared operation can do, said once: closed forms and case lemmas that the provers cite. -/
namespace Sys2Proof.Machine

/-! ### Taking a command -/

/-- A frame that is offered can be taken. -/
theorem State.offers.canTake {s : State} {c : Command} {tag : Byte} {args : List Byte} {rest : List MgmtFrame}
    (h : s.offers c tag args rest) : s.canTake = true := by
  obtain ⟨hr, -, hc⟩ := h
  rw [Nat.add_assoc] at hc
  simp only [State.canTake, hr, State.committed, State.owed, Config.takeLimit, decide_true, Bool.true_and]
  exact decide_eq_true hc

/-- A command whose frame is at the front of the receive list and well formed is handed on. -/
theorem takeFrame_of_offers {α : Type} {c : Command} {parse : List Byte → Option α} {handle : Byte → α → State → State}
    {s : State} {tag : Byte} {args : List Byte} {rest : List MgmtFrame} {a : α}
    (h : s.offers c tag args rest) (hp : parse args = some a) :
    takeFrame c parse handle s = .next (handle tag a { s with receiveList := rest }) := by
  have hc : s.canTake = true := h.canTake
  simp [takeFrame, h.2.1, hc, hp]

/-- A command whose frame has a length it does not take is answered MALFORMED. -/
theorem takeFrame_malformed {α : Type} {c : Command} {parse : List Byte → Option α} {handle : Byte → α → State → State}
    {s : State} {tag : Byte} {args : List Byte} {rest : List MgmtFrame}
    (h : s.offers c tag args rest) (hp : parse args = none) :
    takeFrame c parse handle s = .next (State.reply { s with receiveList := rest } c tag .malformed .nothing) := by
  have hc : s.canTake = true := h.canTake
  simp [takeFrame, h.2.1, hc, hp]

/-- Whatever a management command does, it leaves the state, answers MALFORMED, or hands its arguments on. -/
theorem takeFrame_cases {α : Type} {c : Command} {parse : List Byte → Option α} {handle : Byte → α → State → State}
    {s t : State} (h : takeFrame c parse handle s = .next t) :
    t = s ∨ ∃ f rest, s.receiveList = f :: rest ∧ s.phase = .running ∧ s.committed ≤ 47 ∧ f.code = c.code ∧
      ((parse f.args = none ∧ t = State.reply { s with receiveList := rest } c f.tag .malformed .nothing)
        ∨ ∃ a, parse f.args = some a ∧ t = handle f.tag a { s with receiveList := rest }) := by
  unfold takeFrame at h
  split at h
  · cases h; exact .inl rfl
  · rename_i f rest hl
    split at h
    · rename_i hc
      simp only [State.canTake, Bool.and_eq_true, decide_eq_true_eq] at hc
      refine .inr ⟨f, rest, hl, hc.1.1, hc.1.2, hc.2, ?_⟩
      split at h <;> rename_i hp <;> cases h
      · exact .inl ⟨hp, rfl⟩
      · exact .inr ⟨_, hp, rfl⟩
    · cases h; exact .inl rfl

/-- A management command always answers a next state. -/
theorem takeFrame_next {α : Type} (c : Command) (parse : List Byte → Option α) (handle : Byte → α → State → State)
    (s : State) : ∃ t, takeFrame c parse handle s = .next t := by
  unfold takeFrame
  split
  · exact ⟨_, rfl⟩
  · split
    · dsimp only
      split <;> exact ⟨_, rfl⟩
    · exact ⟨_, rfl⟩

/-- No management command runs outside `running`. -/
theorem takeFrame_not_running {α : Type} {c : Command} {parse : List Byte → Option α} {handle : Byte → α → State → State}
    {s : State} (h : s.phase ≠ .running) : takeFrame c parse handle s = .next s := by
  unfold takeFrame
  split
  · rfl
  · simp [State.canTake, h]

/-! ### Alerts and the queue high flag -/

/-- An alert changes the outgoing list alone. -/
theorem State.alert_eq (s : State) (masked : Bool) (a : Alert) :
    s.alert masked a =
      { s with outgoing := if masked = true ∨ 64 ≤ s.committed then s.outgoing else s.outgoing ++ [.alert a] } := by
  unfold State.alert Config.outgoingCapacity
  by_cases h : masked = true
  · simp [h]
  · by_cases h2 : 64 ≤ s.committed
    · simp [h2]
    · simp [h, h2]

/-- The rise of the total changes the outgoing list and the armed flag alone. -/
theorem State.queueRose_eq (s : State) :
    ∃ o q, s.queueRose = { s with outgoing := o, queueHighArmed := q } := by
  unfold State.queueRose
  split
  · rw [State.alert_eq]; exact ⟨_, _, rfl⟩
  · exact ⟨_, _, rfl⟩

/-- The fall of the total arms the flag or leaves it. -/
theorem State.queueFell_eq (s : State) :
    s.queueFell = { s with queueHighArmed := decide (s.total < s.params.highMark) || s.queueHighArmed } := by
  unfold State.queueFell
  split
  · rename_i h; simp [h]
  · rename_i h; simp [h]

/-- A reservation adds one reserved slot, beside the queue high alert. -/
theorem State.reserveSlot_eq (s : State) :
    ∃ o q, s.reserveSlot = { s with reserved := s.reserved + 1, outgoing := o, queueHighArmed := q } := by
  unfold State.reserveSlot
  obtain ⟨o, q, h⟩ := State.queueRose_eq { s with reserved := s.reserved + 1 }
  exact ⟨o, q, by rw [h]⟩

/-- A released reservation takes one reserved slot off, and may arm the queue high alert. -/
theorem State.releaseSlot_eq (s : State) :
    s.releaseSlot = { s with
      reserved := s.reserved - 1
      queueHighArmed := decide (s.written.length + (s.reserved - 1) < s.params.highMark) || s.queueHighArmed } := by
  unfold State.releaseSlot
  rw [State.queueFell_eq]
  rfl

/-- Reaching capacity changes the outgoing list and the berth's armed flag alone. -/
theorem State.capacityRose_eq (s : State) (b : BerthNo) :
    ∃ o, s.capacityRose b = { s with outgoing := o, sailings := s.sailings } ∨
      ∃ sl, s.sailings[b] = some sl ∧
        s.capacityRose b = { s with outgoing := o, sailings := s.sailings.set b (some { sl with alertArmed := false }) } := by
  unfold State.capacityRose
  split
  · exact ⟨_, .inl rfl⟩
  · rename_i sl h
    split
    · rw [State.alert_eq]; exact ⟨_, .inr ⟨sl, h, rfl⟩⟩
    · exact ⟨_, .inl rfl⟩

/-! ### Updates that write nothing new -/

@[simp] theorem vector_set_self {α : Type} {n : Nat} (v : Vector α n) (i : Fin n) : v.set i v[i] = v := by
  ext j hj
  simp

/-- A gate context put back changes nothing. -/
@[simp] theorem State.setGate_self (s : State) (g : Gate) : s.setGate g s.gates[g] = s := by
  simp [State.setGate]

/-! ### Gate modes -/

/-- One gate's mode worked out again: the mode last sent becomes the computed mode, and a frame goes out if it differed. -/
theorem State.refreshMode_eq (s : State) (g : Gate) :
    s.refreshMode g = { s with
      gates := s.gates.set g { s.gates[g] with modeSent := some (computedMode s.service s.gates[g].state) }
      laneOut := s.laneOut.set g (s.laneOut[g] ++
        if s.gates[g].modeSent = some (computedMode s.service s.gates[g].state) then []
        else [.gateMode (computedMode s.service s.gates[g].state)]) } := by
  unfold State.refreshMode
  dsimp only
  split
  · rename_i h
    have : ({ s.gates[g] with modeSent := some (computedMode s.service s.gates[g].state) } : GateContext) = s.gates[g] := by
      rw [← h]
    rw [this]
    simp
  · simp [State.setGate, State.sendLane]

/-! ### Activations and waiting writes -/

/-- A waiting activation applied moves the marker and produces its REPLY. -/
theorem State.applyActivation_eq (s : State) :
    s.applyActivation = { s with
      activeBank := match s.waitingActivation with
        | some w => some w.bank
        | none => s.activeBank
      waitingActivation := none
      outgoing := s.outgoing ++ match s.waitingActivation with
        | some w => [.reply Command.activateBank.code w.tag .ok (.bank w.bank)]
        | none => [] } := by
  obtain ⟨⟩ := s
  unfold State.applyActivation
  dsimp only
  split <;> simp [State.reply, State.produce]

/-- Waiting writes applied one after another: entries set in order, one REPLY each. -/
theorem foldl_applyWrite (ws : List FilterWrite) (s : State) :
    ws.foldl State.applyWrite s = { s with
      filters := ws.foldl (fun fs w => fs.set w.index w.entry) s.filters
      outgoing := s.outgoing ++ ws.map fun w => .reply Command.loadFilter.code w.tag .ok .nothing } := by
  induction ws generalizing s with
  | nil => simp
  | cons w ws ih => simp [ih, State.applyWrite, State.reply, State.produce]

/-- The writes that waited are applied in order and answered. -/
theorem State.applyWrites_eq (s : State) :
    s.applyWrites = { s with
      filters := s.waitingWrites.foldl (fun fs w => fs.set w.index w.entry) s.filters
      waitingWrites := []
      outgoing := s.outgoing ++ s.waitingWrites.map fun w => .reply Command.loadFilter.code w.tag .ok .nothing } := by
  unfold State.applyWrites
  rw [foldl_applyWrite]

/-! ### Sailings -/

/-- A note of a change reaches the decision that found the berth's sailing, and nothing else. -/
theorem State.noteChange_eq (s : State) (b : BerthNo) (c : SailingChange) :
    s.noteChange b c = { s with
      engine := s.engine.map fun d =>
        if d.found.map (·.berth) = some b ∧ d.change ≠ .closed then { d with change := c } else d } := by
  obtain ⟨⟩ := s
  unfold State.noteChange
  dsimp only
  split
  · split <;> simp_all
  · rfl

/-- A close writes the summary, drops the berth's crew markers, empties the berth and is noted by the decision. -/
theorem State.closeSailing_eq {s : State} {b : BerthNo} {sl : Sailing} (h : s.sailings[b] = some sl) :
    s.closeSailing b = { s with
      written := s.written ++ [⟨s.nextSeq, summaryOf b sl s.now⟩]
      reserved := s.reserved - 1
      nextSeq := s.nextSeq + 1
      gates := s.gates.map fun c =>
        if c.config.berth = some b then { c with list := c.list.map Transaction.markerDropped } else c
      sailings := s.sailings.set b none
      engine := s.engine.map fun d =>
        if d.found.map (·.berth) = some b ∧ d.change ≠ .closed then { d with change := .closed } else d } := by
  unfold State.closeSailing
  rw [h]
  simp only [State.noteChange_eq, State.setSailing, State.dropCrewMarkers, State.writeRecord]

/-- A berth without a sailing stays as it is. -/
theorem State.closeSailing_none {s : State} {b : BerthNo} (h : s.sailings[b] = none) : s.closeSailing b = s := by
  unfold State.closeSailing
  rw [h]

/-! ### The stages -/

/-- The stage that comes next, its decision and its transaction, read off a state that has come to it. -/
theorem State.atStage_of_deciding {s : State} {st : Stage} {d : Decision} {t : Transaction} (h : s.deciding st d t) :
    s.atStage st = some (d, t) := by
  obtain ⟨hr, he, hs, hf⟩ := h
  rw [State.atStage, if_pos hr, he, Option.bind_some, if_pos hs, hf]
  rfl

/-- And back: what `atStage` answers has come to the stage. -/
theorem State.deciding_of_atStage {s : State} {st : Stage} {d : Decision} {t : Transaction}
    (h : s.atStage st = some (d, t)) : s.deciding st d t := by
  unfold State.atStage at h
  split at h
  · rename_i hr
    rw [Option.bind_eq_some_iff] at h
    obtain ⟨d', he, h⟩ := h
    split at h
    · rename_i hs
      rw [Option.map_eq_some_iff] at h
      obtain ⟨t', hf, ht⟩ := h
      cases ht
      exact ⟨hr, he, hs, hf⟩
    · cases h
  · cases h

/-- No stage runs outside `running`. -/
theorem State.atStage_not_running {s : State} {st : Stage} (h : s.phase ≠ .running) : s.atStage st = none := by
  simp [State.atStage, h]

/-- The transaction a list answers for a tap number carries it. -/
theorem findTap_tap {l : List Transaction} {tap : TapNumber} {t : Transaction} (h : findTap l tap = some t) : t.tap = tap := by
  simpa using List.find?_some h

/-- And is a member of the list. -/
theorem findTap_mem {l : List Transaction} {tap : TapNumber} {t : Transaction} (h : findTap l tap = some t) : t ∈ l :=
  List.mem_of_find?_eq_some h

/-- A decision handed past stage 5 to the recheck is refused DEPARTING there (R73, R39). -/
theorem Decision.finalRefusal_toRecheck {d : Decision} (hr : d.refusal = none) (hc : d.change = .left) :
    d.toRecheck.finalRefusal = some .departing := by
  simp [Decision.finalRefusal, Decision.toRecheck, hr, hc]

end Sys2Proof.Machine
end

