-- ==== Sys2Proof/WellFormed.lean ====
section
/-! DEFINITION. Which commands name the row they are. A sender's TAP and PASSAGE bytes, and its MGMT bytes, are one whole
envelope (R180) of the row's class, or of no class the link knows; every other operand is in range by its type. `exec`
gives every command a meaning, well formed or not: bytes that are not one envelope are taken by the receiver all the same. -/
namespace Sys2Proof

/-- The bytes are one envelope: start mark, class, length, as many payload bytes, check word; or they end at a length
above 120, where the receiver ends the frame (R180, R181). -/
def oneEnvelope (bytes : List Byte) : Bool :=
  match bytes with
  | mark :: _ :: len :: rest =>
    decide (mark = 0xA5) && (if 120 < len.toNat then rest.isEmpty else decide (rest.length = len.toNat + 2))
  | _ => false

/-- The class byte of an envelope (R180). -/
def classByte (bytes : List Byte) : Option Byte := bytes[1]?

/-- A command names the row it is. -/
def Instr.wellFormed : Instr → Bool
  | .tap _ bytes => oneEnvelope bytes && decide (classByte bytes ≠ some 0x11)
  | .passage _ bytes => oneEnvelope bytes && decide (classByte bytes ≠ some 0x10)
  | .mgmtFrameArrival bytes => oneEnvelope bytes
  | _ => true

end Sys2Proof
end

