-- ==== Sys2Proof/Tests/Slice0.lean ====
section
/-! SUPPORT. Tests: the manual's worked examples, one step each, and a witness for the hypotheses of each statement.
Expected values are the manual's; each test names the rule or the worked case it is taken from. -/
set_option Elab.async false

namespace Sys2Proof.Tests
open Sys2Proof Sys2Proof.Machine Sys2Proof.Claims

/-! ### Helpers -/

/-- One field of a next state. -/
def field {α : Type} (r : Result) (f : State → α) : Option α :=
  match r with
  | .next s => some (f s)
  | _ => none

/-- A state with one MGMT frame, tag 7, at the front of its receive list. -/
def offering (s : State) (c : Command) (args : List Byte) : State :=
  { s with receiveList := [⟨c.code, 7, args⟩] }

/-- The result of each REPLY in the outgoing list. -/
def replies (s : State) : List ReplyResult :=
  s.outgoing.filterMap fun f => match f with
    | .reply _ _ r _ => some r
    | _ => none

/-- What a command answers when its frame is taken from state s: the replies. -/
def answers (s : State) (c : Command) (args : List Byte) : Option (List ReplyResult) :=
  field (exec (rowOf c) (offering s c args)) replies

/-- Curve 1 of 5.11. -/
def curve1 : CurveEntry := ⟨192, 128, ⟨64, 224, 64⟩, ⟨160, 256, 96⟩, ⟨224, 320, 256⟩⟩
/-- Curve 2 of 5.11. -/
def curve2 : CurveEntry := ⟨256, 0, ⟨128, 400, 2047⟩, ⟨200, 300, 0⟩, ⟨200, 480, 0⟩⟩
/-- The band of line 5 in 5.11. -/
def band5 : BandEntry := ⟨380, 200, 600, 1, 60, 300⟩
/-- The band of line 2 in 5.11. -/
def band2 : BandEntry := ⟨500, 300, 700, 2, 0, 0⟩

/-- A bank with the tables of 5.11, and products 0 stored value, 1 period pass and 2 capped pass for every line. -/
def fares : Bank where
  products := ((Vector.replicate 64 none).set 0 (some ⟨.storedValue, 0⟩)).set 1 (some ⟨.periodPass, 0xFFFFFFFF⟩)
    |>.set 2 (some ⟨.cappedPass, 0xFFFFFFFF⟩)
  bands := ((Vector.replicate 32 none).set 5 (some band5)).set 2 (some band2)
  curves := ((Vector.replicate 4 none).set 1 (some curve1)).set 2 (some curve2)
  concessions := ((Vector.replicate 8 none).set 0 (some 256)).set 1 (some 128) |>.set 2 (some 160) |>.set 3 (some 0)
  count := 11

/-- The sailing of case 1 of 5.11: line 5, capacity 150, 96 boarded and 3 held. -/
def sailing1 : Sailing := ⟨.boarding, 881, 5, 150, 96, 3, 2, 4, 12000, ⟨413, 300⟩, true⟩

/-- A card of class 0 with balance 1,520 that boarded line 3 for 250, 1,380 seconds before second 600 of day 413. -/
def card1 : CardData := ⟨500120500, 5, 0, 0, 1520, some ⟨3, 412, 85620, 250⟩, some 413⟩

/-- Settings of an enabled gate. -/
def settings (berth : BerthNo) (counting : Counting) (lane : LaneKind) : GateSettings := ⟨true, some berth, 1, counting, lane⟩

/-- An ACTIVE gate holding transactions, in NORMAL mode. -/
def activeGate (v : GateSettings) (l : List Transaction) : GateContext := ⟨v, .active, l, some .normal, 0, 0⟩

/-- A part in service at day 413, second 600, priced from bank A, with gates as given on a berth that boards line 5. -/
def service (gates : Vector GateContext 16) (sl : Sailing) (reserved : Nat) : State :=
  { State.reset with
    gates := gates
    service := .inService
    clock := some ⟨413, 600⟩
    ceilings := some #v[200, 150, 90, 40]
    bankA := fares
    activeBank := some .bankA
    sailings := (Vector.replicate 4 none).set 1 (some sl)
    reserved := reserved }

/-- Gates of which only gate 7 is configured. -/
def gate7 (c : GateContext) : Vector GateContext 16 := (Vector.replicate 16 GateContext.reset).set 7 c

/-- A decision at gate 7 on tap 401. -/
def decision (st : Stage) : Decision where
  gate := 7
  tap := 401
  stage := st
  bank := .bankA
  time := ⟨413, 600⟩
  found := if st = .sailing then none else some ⟨1, 881, 5⟩
  change := .unchanged
  occupancy := if st.afterCapacity then some ⟨99, 150⟩ else none
  filterIndex := none
  crew := false
  inspect := false
  slot := none
  kind := if st = .capacity ∨ st.afterCapacity then some .storedValue else none
  fareValue := if st = .verdict then 384 else 0
  credit := if st = .verdict then 250 else 0
  charged := if st = .verdict then 134 else 0
  newBalance := if st = .verdict then some 1386 else none
  refusal := none

/-- Tap 401 of card 1 while DECIDING. -/
def deciding401 (card : CardData) : Transaction := ⟨401, card, 0, .deciding⟩

/-- The part of case 1 of 5.11 with tap 401 at gate 7 at a stage of its decision. -/
def atStage (counting : Counting) (d : Decision) (card : CardData) : State :=
  { service (gate7 (activeGate (settings 1 counting .standard) [deciding401 card])) { sailing1 with boarded := 99, held := 0 }
      2 with
    engine := some d }

/-- The verdict an opened tap 401 carries. -/
def opened401 : Verdict := ⟨.opened, none, 134, 384, 250, some 1386, false, false, none, .bankA, ⟨413, 600⟩, some 881⟩

/-- Tap 401 while it awaits its passage. -/
def awaiting401 : Transaction := ⟨401, card1, 0, .awaiting ⟨opened401, ⟨0, 80⟩, .passenger, none⟩⟩

/-- The part with tap 401 awaiting its passage at gate 7, one place held. -/
def passing (sl : Sailing) : State :=
  service (gate7 (activeGate (settings 1 .confirmed .tandem) [awaiting401])) { sl with held := 1 } 2

/-- A PASSAGE frame for tap 401. -/
def passage401 (code : Byte) : List Byte := frameBytes 0x11 [0x01, 0x91, code]

/-! ### WellFormed: an ill-formed command for each check -/

theorem test_wellFormed_accepts_frames :
    (Instr.tap 3 (frameBytes 0x10 (List.replicate 26 0))).wellFormed = true
      ∧ (Instr.passage 3 (passage401 1)).wellFormed = true
      ∧ (Instr.mgmtFrameArrival (mgmtBytes ⟨0x15, 7, []⟩)).wellFormed = true
      ∧ (Instr.tap 3 [0xA5, 0x10, 121]).wellFormed = true := by decide +kernel

theorem test_wellFormed_refuses_wrong_start_mark : (Instr.mgmtFrameArrival [0xA4, 0x40, 0, 0, 0]).wellFormed = false := by decide
theorem test_wellFormed_refuses_short_frame : (Instr.mgmtFrameArrival [0xA5, 0x40]).wellFormed = false := by decide
theorem test_wellFormed_refuses_missing_check_byte : (Instr.tap 0 [0xA5, 0x10, 0, 0]).wellFormed = false := by decide
theorem test_wellFormed_refuses_bytes_behind_frame : (Instr.tap 0 [0xA5, 0x10, 0, 0, 0, 0]).wellFormed = false := by decide
theorem test_wellFormed_refuses_bytes_behind_overlong : (Instr.tap 0 [0xA5, 0x10, 121, 0]).wellFormed = false := by decide
theorem test_wellFormed_refuses_passage_as_tap : (Instr.tap 3 (passage401 1)).wellFormed = false := by decide +kernel
theorem test_wellFormed_refuses_tap_as_passage : (Instr.passage 3 [0xA5, 0x10, 0, 0, 0]).wellFormed = false := by decide

/-! ### The table and the queue -/

theorem test_table_words_spell_no_command : decodeTableWord 8 0 = none ∧ decodeTableWord 0 0 = none := by decide
theorem test_step_takes_front : field (step { State.reset with pending := [.musterLineAsserted, .powerUp] }) (·.pending.length) = some 1 := by
  decide +kernel
theorem test_empty_queue_counts_a_tenth : field (step State.reset) (·.timeBase) = some 1 := by decide +kernel

/-! ### Frames (chapter 12) -/

/-- R181: the check word over the characters 1 to 9. -/
theorem test_check_word : checkWord [0x31, 0x32, 0x33, 0x34, 0x35, 0x36, 0x37, 0x38, 0x39] = 0x29B1 := by decide +kernel

/-- R182, R186, R187: payload lengths. -/
theorem test_payload_lengths :
    (tapPayload ⟨401, card1⟩).length = 26
      ∧ (gatePayload (.verdict 401 .opened none 134 (some 1386) false)).length = 11
      ∧ (uplinkPayload (.reply 0x15 7 .ok (.part State.reset.partSection))).length = 44
      ∧ (uplinkPayload (.reply 0x15 7 .ok (.gates (State.reset.gates.toList.map GateContext.report)))).length = 100
      ∧ (uplinkPayload (.reply 0x15 7 .ok (.berths [none, some sailing1, none, none]))).length = 92
      ∧ (recordPayload ⟨0, .summary (summaryFields 1 sailing1 ⟨413, 600⟩)⟩).length = 28
      ∧ (recordPayload ⟨0, .tap (tapFields .boarded 7 (some 1) 401 card1 opened401 ⟨413, 600⟩)⟩).length = 41
      ∧ (alertPayload (.capacityReached 0 881 120 118 2)).length = 10 ∧ (alertPayload (.queueHigh 221 3 (some 65314))).length = 8
      ∧ (alertPayload (.priorityMatch ⟨2, 0, 5, ⟨1, 2⟩⟩)).length = 14 := by decide +kernel

/-- R184: a VERDICT of tap 401, OPEN, charged 134, new balance 1,386, written out byte by byte. -/
theorem test_verdict_bytes :
    gatePayload (.verdict 401 .opened none 134 (some 1386) false) = [0x01, 0x91, 1, 0, 0, 134, 0, 0, 0x05, 0x6A, 2] := by decide +kernel

/-- R183: a new balance of −50 in four bytes, two's complement. -/
theorem test_negative_balance_bytes : signedBytes (-50) = [0xFF, 0xFF, 0xFF, 0xCE] := by decide +kernel

/-- R184: a TAP payload written out byte by byte is read field by field; a clear presence bit leaves its group absent. -/
theorem test_tap_payload_read :
    parseTap [0x01, 0x91, 0, 0, 0x1D, 0xCF, 0x3B, 0xB4, 5, 0, 0, 0, 0, 0x05, 0xF0, 1, 3, 0x01, 0x9C, 0x01, 0x4E, 0x74, 0,
      250, 0xFF, 0xFF] = ⟨401, { card1 with passExpiry := none }⟩ := by decide +kernel

/-- R185: SET_TIME day 413, second 18,000, and SET_LIMITS 120, 150, 90, 40. -/
theorem test_arguments_read :
    parseSetTime [0x01, 0x9D, 0x00, 0x46, 0x50] = some ⟨413, 18000⟩
      ∧ parseSetLimits [0, 120, 0, 150, 0, 90, 0, 40] = some ⟨120, 150, 90, 40⟩ := by decide +kernel

/-! ### Filter (3.6, 3.7) -/

/-- The list of 3.6. -/
def list36 : Vector (Option FilterRule) 128 :=
  (Vector.replicate 128 none).set 0 (some ⟨.priority, .masked, 0x7F0000000000, 0xFF0000000000, some 9⟩)
    |>.set 1 (some ⟨.refuse, .range, 500120000, 500120999, some 3⟩)
    |>.set 2 (some ⟨.slot 12, .pair, 500120500, 612000017, none⟩)
    |>.set 3 (some ⟨.inspect, .masked, 0x0A3170000000, 0xFFFFF0000000, none⟩)
    |>.set 5 (some ⟨.refuse, .range, 612000017, 612000017, some 4⟩)

/-- Cards a to g of 3.6: the filter index. -/
theorem test_search_of_36 :
    ([(0x7F00000012AB, 9), (0x7F00000012AB, 8), (500120500, 3), (500120500, 5), (612000017, 4), (0x0A3171234567, 2),
        (0x0A3181234567, 2)] : List (Media × Byte)).map (fun c => (searchFilters list36 c.1 c.2).map (·.1))
      = [some 0, none, some 1, some 2, some 2, some 3, none] := by decide +kernel

/-! ### Pricing (chapter 5) -/

/-- R84: the table of C, N and O. -/
theorem test_occupancy_index :
    [(0, 150), (75, 150), (99, 150), (149, 150), (0, 1), (998, 999), (24, 40)].map (fun p => occupancyIndex p.1 p.2)
      = [0, 128, 168, 254, 0, 255, 153] := by decide +kernel

/-- 5.11, the shape of curve 1 on line 5: F and A. -/
theorem test_curve_1 :
    [0, 32, 63, 64, 100, 159, 160, 168, 223, 224, 255].map
        (fun o => (curveFactor (some curve1) o, adjustedFare 380 (curveFactor (some curve1) o)))
      = [(192, 285), (208, 309), (223, 331), (224, 333), (233, 346), (247, 367), (256, 380), (259, 384), (279, 414),
        (320, 475), (351, 521)] := by decide +kernel

/-- R86, 5.11: on curve 2 points 2 and 3 share source 200 and the later wins; the clamp at 153; an unloaded curve (R88). -/
theorem test_curve_2 :
    curveFactor (some curve2) 200 = 480 ∧ curveFactor (some curve2) 153 = 511 ∧ curveFactor (some curve2) 143 = 511
      ∧ curveFactor none 153 = 256 := by decide +kernel

/-- R89: the table of B, F and A. -/
theorem test_adjusted_fare :
    [(380, 256), (380, 192), (380, 259), (500, 511), (9999, 511), (3, 128)].map (fun p => adjustedFare p.1 p.2)
      = [380, 285, 384, 998, 19959, 2] := by decide +kernel

/-- 5.11 cases 1 to 5: fare values for adult, child, the empty sailing, line 2 adult and senior, exempt and unloaded. -/
theorem test_fare_values :
    priceTap fares band5 ⟨99, 150⟩ 0 = 384 ∧ priceTap fares band5 ⟨99, 150⟩ 1 = 200 ∧ priceTap fares band5 ⟨0, 150⟩ 0 = 285
      ∧ priceTap fares band2 ⟨24, 40⟩ 0 = 700 ∧ priceTap fares band2 ⟨24, 40⟩ 2 = 624
      ∧ priceTap fares band5 ⟨99, 150⟩ 3 = 0 ∧ priceTap fares band5 ⟨99, 150⟩ 4 = 384 := by decide +kernel

/-- 5.11 case 6: elapsed time at the edges. -/
theorem test_transfer_credit_edges :
    ([(413, 600), (412, 85800), (412, 83400), (412, 83399), (413, 1500), (414, 0)] : List (BitVec 16 × BitVec 24)).map
        (fun p => transferCredit .storedValue (some ⟨3, p.1, p.2, 250⟩) 5 band5 ⟨413, 600⟩)
      = [250, 250, 250, 0, 0, 0] := by decide +kernel

/-- R109: across midnight 200 seconds have passed. -/
theorem test_elapsed_across_midnight : elapsed ⟨414, 100⟩ ⟨413, 86300⟩ = 200 := by decide +kernel

/-! ### Gate lanes (1.11) -/

/-- 1.11 step 3: the TANDEM list is full, so TAP 403 is answered BUSY. -/
theorem test_tap_busy :
    field (exec (.tap 7 (frameBytes 0x10 (tapPayload ⟨403, card1⟩)))
      (service (gate7 (activeGate (settings 1 .confirmed .tandem) [awaiting401, deciding401 card1])) sailing1 3))
      (·.laneOut[(7 : Gate)].getLast?) = some (some (.verdict 403 .busy none 0 none false)) := by decide +kernel

/-- R12: a TAP at an ACTIVE gate with room waits with the tap wait limit of 30; R24: one with a wrong check word is counted. -/
theorem test_tap_pending_or_bad :
    field (exec (.tap 7 (frameBytes 0x10 (tapPayload ⟨402, card1⟩))) (passing sailing1)) (·.gates[(7 : Gate)].list.getLast?)
        = some (some ⟨402, card1, 0, .pending ⟨0, 30⟩⟩)
      ∧ field (exec (.tap 7 (envelope 0x10 (tapPayload ⟨402, card1⟩) 0)) (passing sailing1))
          (fun s => (s.gates[(7 : Gate)].badFrames, s.gates[(7 : Gate)].list.length)) = some (1, 1) := by decide +kernel

/-- R181: a frame split over two arrivals is one frame, and what it makes follows the second. -/
theorem test_tap_in_two_arrivals :
    field (exec (.tap 7 ((frameBytes 0x10 (tapPayload ⟨402, card1⟩)).take 9)) (passing sailing1))
        (fun s => (s.gates[(7 : Gate)].list.length, s.gates[(7 : Gate)].badFrames)) = some (1, 0)
      ∧ field (exec (.tap 7 ((frameBytes 0x10 (tapPayload ⟨402, card1⟩)).drop 9))
          { passing sailing1 with
            laneRx := (passing sailing1).laneRx.set 7 (.reading (((frameBytes 0x10 (tapPayload ⟨402, card1⟩)).take 9).drop 1)) })
        (fun s => s.gates[(7 : Gate)].list.length) = some 2 := by decide +kernel

/-- R183: unnamed presence bits, and the bytes of groups whose bit is clear, are not looked at. -/
theorem test_tap_ignores_unnamed_bits :
    (parseTap (List.replicate 15 1 ++ [0xFC] ++ List.replicate 10 0xFF)).card.lastBoarding = none
      ∧ (parseTap (List.replicate 15 1 ++ [0xFC] ++ List.replicate 10 0xFF)).card.passExpiry = none := by decide +kernel

/-- 4.12 step 8: PASSAGE PASSED for a tap charged 134 moves its place to boarded and adds 134. -/
theorem test_passage_passed :
    field (exec (.passage 7 (passage401 1)) (passing sailing1))
      (fun s => (s.sailings[(1 : BerthNo)].map fun sl => (sl.boarded, sl.held, sl.revenue), s.written.length, s.reserved))
      = some (some (97, 0, 12134), 1, 1) := by decide +kernel

/-- 4.12 step 9: the window of the last held place of a CLOSING sailing runs out; two records and a CLOSED berth. -/
theorem test_window_expiry_closes :
    field (exec (.passageWindowExpiry 7 401) (passing { sailing1 with state := .closing }))
      (fun s => (s.sailings[(1 : BerthNo)].isSome, s.written.length, s.reserved, s.timeBase)) = some (false, 2, 0, 80) := by
  decide +kernel

/-- R23: a report with an unknown result is stray. -/
theorem test_stray_report :
    field (exec (.passage 7 (passage401 4)) (passing sailing1)) (fun s => (s.gates[(7 : Gate)].strays, s.written.length))
      = some (1, 0) := by decide +kernel

/-- Tap 402 waiting at gate 7. -/
def pending402 : Transaction := ⟨402, card1, 0, .pending ⟨0, 30⟩⟩

/-- Gate 7 DRAINING with tap 402 waiting. -/
def draining : State :=
  service (gate7 ⟨{ settings 1 .confirmed .standard with enabled := false }, .draining, [pending402], some .closed, 0, 0⟩)
    { sailing1 with held := 0 } 1

/-- R14, R21: a DRAINING gate whose last tap is answered RETRY becomes DISABLED. -/
theorem test_tap_wait_expiry :
    field (exec (.tapWaitExpiry 7 402) draining)
      (fun s => (s.gates[(7 : Gate)].state, s.laneOut[(7 : Gate)].getLast?, s.timeBase))
      = some (.disabled, some (.verdict 402 .retry none 0 none false), 30) := by decide +kernel

/-- R8: the frame produced first leaves first. -/
theorem test_lane_frame_sent :
    field (exec (.laneFrameSent 3) State.reset) (fun s => (s.laneOut[(3 : Gate)], s.laneTx[(3 : Gate)].take 4))
      = some ([], [0xA5, 0x21, 1, 2]) := by decide +kernel

/-! ### The arbiter and the engine (2.6, 5.11) -/

/-- 2.6 step 6: gates 2 and 11 at priority 2 and gate 5 at priority 0 wait; after a grant to gate 4, gate 11 wins. -/
def busyLine : State :=
  let gate (p : Fin 4) (tap : TapNumber) : GateContext :=
    activeGate { settings 1 .confirmed .standard with priority := p } [⟨tap, card1, 0, .pending ⟨0, 30⟩⟩]
  { service ((((Vector.replicate 16 GateContext.reset).set 2 (gate 2 70)).set 11 (gate 2 33)).set 5 (gate 0 90))
      { sailing1 with held := 0 } 1 with
    lastGranted := 4 }

theorem test_grant_choice :
    field (exec .grant busyLine) (fun s => (s.lastGranted, s.reserved, s.engine.map (·.tap))) = some (11, 2, some 33) := by
  decide +kernel

theorem test_stage_1_finds_sailing :
    field (exec .sailingStage (atStage .confirmed (decision .sailing) card1)) (fun s => s.engine.map fun d => (d.found, d.stage))
      = some (some (some ⟨1, 881, 5⟩, .cardData)) := by decide +kernel

/-- R33: a balance of −100,000 is out of range. -/
theorem test_stage_2_refuses_balance :
    field (exec .cardDataStage (atStage .confirmed (decision .cardData) { card1 with balance := BitVec.ofInt 32 (-100000) }))
      (fun s => s.engine.map (·.refusal)) = some (some (some .cardData)) := by decide +kernel

theorem test_stage_3_begins_search :
    field (exec .filterSearch (atStage .confirmed (decision .filter) card1)) (fun s => s.engine.map (·.stage))
      = some (some .searching) := by decide +kernel

/-- 3.7 step 5: the search ends at the entry as it stood, then the waiting write is applied and answered. -/
def searching37 : State :=
  { atStage .confirmed (decision .searching) { card1 with issuer := 3 } with
    filters := list36
    waitingWrites := [⟨40, 1, none⟩] }

theorem test_search_then_waiting_write :
    field (exec .filterSearchComplete searching37)
      (fun s => (s.engine.map fun d => (d.refusal, d.filterIndex), s.filters[(1 : FilterIndex)], replies s))
      = some (some (some .listed, some 1), none, [.ok]) := by decide +kernel

theorem test_stage_4_no_product :
    field (exec .productStage (atStage .confirmed (decision .product) { card1 with product := 64 }))
      (fun s => s.engine.map (·.refusal)) = some (some (some .noProduct)) := by decide +kernel

/-- R36, 5.11 case 1: 96 boarded and 3 held of 150. -/
theorem test_stage_5_keeps_occupancy :
    field (exec .capacityStage (atStage .confirmed (decision .capacity) card1)) (fun s => s.engine.map (·.occupancy))
      = some (some (some ⟨99, 150⟩)) := by decide +kernel

/-- R73: a decision past stage 1 at the DEPART reaches neither stage 5, even on a full sailing, nor the fare. -/
theorem test_stage_5_not_reached_when_closing :
    field (exec .capacityStage (atStage .confirmed { decision .capacity with change := .left } card1))
      (fun s => s.engine.map fun d => (d.stage, d.refusal, d.occupancy, d.fareValue))
      = some (some (.verdict, none, none, 0)) := by decide +kernel

/-- A decision of a capped pass bound to slot 12. -/
def capped (st : Stage) : Decision :=
  { decision st with slot := some 12, kind := some .cappedPass, charged := 0, credit := 0, newBalance := none }

/-- The part with the capped pass of 6.8 in slot 12. -/
def cappedAt (counting : Counting) (st : Stage) (p : PassSlot) : State :=
  let s := atStage counting (capped st) { card1 with product := 2 }
  { s with slots := s.slots.set 12 (some p) }

/-- 6.8 steps 3, 6 and 7: in flight; E = 94; E = 394 passes (R108). -/
theorem test_stage_6_slot_checks :
    [(⟨500120500, 2, 1, true, none⟩ : PassSlot), ⟨500120500, 2, 1, false, some ⟨413, 506⟩⟩, ⟨500120500, 2, 1, false, some ⟨413, 206⟩⟩,
        ⟨500120500, 2, 2, false, some ⟨413, 206⟩⟩].map
        (fun p => field (exec .productKindStage (cappedAt .confirmed .productKind p)) (fun s => s.engine.bind (·.refusal)))
      = [some (some .passback), some (some .passback), some none, some (some .passUsedUp)] := by decide +kernel

/-- 5.11 case 1 whole: fare value 384, credit 250, charged 134, new balance 1,386. -/
theorem test_stage_7_case_1 :
    field (exec .fareStage (atStage .confirmed (decision .fare) card1))
      (fun s => s.engine.map fun d => (d.fareValue, d.credit, d.charged, d.newBalance)) = some (some (384, 250, 134, some 1386)) := by
  decide +kernel

/-- 4.12 steps 1 and 2: an open at a CONFIRMED gate holds a place; one at a DIRECT gate boards at once. -/
theorem test_verdict_confirmed :
    field (exec .verdict (atStage .confirmed (decision .verdict) card1))
      (fun s => (s.sailings[(1 : BerthNo)].map fun sl => (sl.boarded, sl.held), s.gates[(7 : Gate)].list.length, s.written.length,
        s.engine.isSome)) = some (some (99, 1), 1, 0, false) := by decide +kernel

theorem test_verdict_direct :
    field (exec .verdict (atStage .direct (decision .verdict) card1))
      (fun s => (s.sailings[(1 : BerthNo)].map fun sl => (sl.boarded, sl.held, sl.revenue), s.gates[(7 : Gate)].list.length,
        s.written.length, s.reserved)) = some (some (100, 0, 12134), 0, 1, 1) := by decide +kernel

/-! ### Muster (9.7) -/

/-- R150: tap 401 is voided and its place released, tap 402 is answered MUSTER, the sailing is SUSPENDED. -/
def beforeMuster : State :=
  service (gate7 (activeGate (settings 1 .confirmed .tandem) [awaiting401, pending402])) { sailing1 with held := 1 } 2

theorem test_muster_line_asserted :
    field (exec .musterLineAsserted beforeMuster) (fun s => (s.service, s.laneOut[(7 : Gate)].drop 1, s.written.length))
        = some (.muster, [.verdict 402 .muster none 0 none false, .gateMode .freeEgress], 1)
      ∧ field (exec .musterLineAsserted beforeMuster)
          (fun s => (s.reserved, s.sailings[(1 : BerthNo)].map fun sl => (sl.state, sl.held)))
        = some (1, some (.suspended, 0)) := by decide +kernel

/-- The part in MUSTER on the command request. -/
def mustering : State :=
  { service (Vector.replicate 16 { GateContext.reset with modeSent := some .freeEgress }) { sailing1 with state := .suspended, held := 0 }
      1 with
    service := .muster
    commandRequest := true }

/-- 9.7 step 13: the last request clears; the berth boards again and the lanes are sent CLOSED. -/
theorem test_muster_end :
    field (exec .musterEnd (offering mustering .musterEnd []))
      (fun s => (s.service, s.sailings[(1 : BerthNo)].map (·.state), s.laneOut[(7 : Gate)].getLast?, replies s))
      = some (.inService, some .boarding, some (.gateMode .closed), [.ok]) := by decide +kernel

/-- R147, R148: the line still holds; and its release, with no command request, ends the muster. -/
theorem test_muster_line_held :
    field (exec .musterEnd (offering { mustering with musterLine := true } .musterEnd [])) (fun s => (s.service, replies s))
      = some (.muster, [.lineHeld]) := by decide +kernel
theorem test_muster_line_released :
    field (exec .musterLineReleased { mustering with musterLine := true, commandRequest := false }) (·.service) = some .inService := by
  decide +kernel
theorem test_muster_start_in_config : answers State.reset .musterStart [] = some [.ok] := by decide +kernel

/-! ### Management commands -/

/-- 10.7 steps 2 to 4: the missing items are named in turn. -/
theorem test_start_service_missing :
    field (exec .startService (offering State.reset .startService [])) (·.outgoing)
      = some [.reply 0x11 7 .badState (.missing .clockUnset)] := by decide +kernel

/-- 10.7 step 10: the ACTIVE gate is sent NORMAL, a DISABLED one nothing. -/
theorem test_start_service :
    field (exec .startService (offering { State.reset with
        clock := some ⟨413, 18330⟩, ceilings := some #v[120, 150, 90, 40], activeBank := some .bankA
        gates := gate7 { activeGate (settings 1 .confirmed .standard) [] with modeSent := some .closed } } .startService []))
      (fun s => (s.service, s.laneOut[(7 : Gate)].drop 1, s.laneOut[(12 : Gate)].drop 1)) = some (.inService, [.gateMode .normal], []) := by
  decide +kernel

/-- R160: a berth not CLOSED and a gate holding a transaction are counted. -/
theorem test_stop_service_refused :
    field (exec .stopService (offering (passing sailing1) .stopService [])) (·.outgoing)
      = some [.reply 0x12 7 .badState (.stillOpen 1 1)] := by decide +kernel

theorem test_set_time : field (exec .setTime (offering State.reset .setTime [0x01, 0x9D, 0x00, 0x46, 0x50])) (·.clock)
    = some (some ⟨413, 18000⟩) := by decide +kernel
/-- R164: a second of 86,400. -/
theorem test_set_time_refused : answers State.reset .setTime [0, 0, 0x01, 0x51, 0x80] = some [.badValue] := by decide +kernel

theorem test_set_limits :
    field (exec .setLimits (offering State.reset .setLimits [0, 120, 0, 150, 0, 90, 0, 40])) (·.ceilings)
      = some (some #v[120, 150, 90, 40]) := by decide +kernel
/-- R61: one figure of 1,000 leaves all four unset. -/
theorem test_set_limits_refused : answers State.reset .setLimits [0, 120, 0x03, 0xE8, 0, 90, 0, 40] = some [.badValue] := by
  decide +kernel

/-- 10.7 step 6: a window of 400 is applied as 300. -/
theorem test_set_parameters :
    field (exec .setParameters (offering State.reset .setParameters [1, 144, 0, 20, 1, 244, 0, 0, 224, 0, 120]))
      (fun s => (s.params, replies s)) = some (⟨300, 20, 500, .accept, 224, 120⟩, [.clamped]) := by decide +kernel

theorem test_set_alert_mask :
    field (exec .setAlertMask (offering State.reset .setAlertMask [1, 0, 1])) (·.masks) = some ⟨true, false, true⟩ := by decide +kernel

/-- 1.11 step 10: an ACTIVE gate that holds a transaction drains and is sent CLOSED. -/
theorem test_gate_config_drains :
    field (exec .gateConfig (offering (passing sailing1) .gateConfig [7, 0, 255, 0, 0, 0]))
      (fun s => (s.gates[(7 : Gate)].state, s.laneOut[(7 : Gate)].getLast?, replies s))
      = some (.draining, some (.gateMode .closed), [.ok]) := by decide +kernel
/-- R3: berth 4 is outside its values. -/
theorem test_gate_config_bad_value : answers State.reset .gateConfig [7, 1, 4, 0, 0, 0] = some [.badValue] := by decide +kernel

/-- 3.7 step 4: a valid write waits on the search. -/
theorem test_load_filter_waits :
    field (exec .loadFilter (offering searching37 .loadFilter
        [4, 3, 0, 0, 0, 0x29, 0xB9, 0x27, 0x00, 0, 0, 0x29, 0xB9, 0x27, 0x63, 255, 0]))
      (fun s => (s.waitingWrites.length, s.outgoing.length)) = some (2, 0) := by decide +kernel
/-- 3.7 step 3: index 200. -/
theorem test_load_filter_bad_index :
    answers searching37 .loadFilter [200, 0, 0, 0, 0, 0, 0, 0, 0, 0, 0, 0, 0, 0, 0, 0, 0] = some [.badIndex] := by decide +kernel

/-- 7.8 steps 3 and 4: band 7 with floor 450 and ceiling 400 is refused; floor 300 and ceiling 450 is loaded. -/
theorem test_load_fare_band :
    answers State.reset .loadFare ([1, 1, 7, 1, 244, 1, 194, 1, 144, 0, 60, 0, 0] ++ List.replicate 12 0) = some [.badValue]
      ∧ field (exec .loadFare (offering State.reset .loadFare
          ([1, 1, 7, 1, 244, 1, 44, 1, 194, 0, 60, 0, 0] ++ List.replicate 12 0))) (fun s => (s.bankB.bands[7], s.bankB.count))
        = some (some ⟨500, 300, 450, 0, 60, 0⟩, 1) := by decide +kernel
/-- 7.8 step 6: the active bank is not written. -/
theorem test_load_fare_active : answers (passing sailing1) .loadFare ([0, 3, 0, 1, 0] ++ List.replicate 20 0) = some [.badState] := by
  decide +kernel

theorem test_clear_bank : answers (passing sailing1) .clearBank [0] = some [.badState] ∧ answers (passing sailing1) .clearBank [1] = some [.ok] := by
  decide +kernel

/-- 7.8 steps 7 and 9: a wrong count; and, while the engine decides, a wait without a REPLY. -/
theorem test_activate_bank :
    answers (passing sailing1) .activateBank [1, 61] = some [.bankMismatch]
      ∧ field (exec .activateBank (offering (atStage .confirmed (decision .fare) card1) .activateBank [1, 0]))
          (fun s => (s.waitingActivation, replies s)) = some (some ⟨.bankB, 7⟩, []) := by decide +kernel

theorem test_read_entry :
    field (exec .readEntry (offering (passing sailing1) .readEntry [0, 1, 5])) (·.outgoing)
      = some [.reply 0x0A 7 .ok (.entry (some (.band band5)))] := by decide +kernel

/-- 6.8 step 1; R106: a limit of 16. -/
theorem test_load_slot :
    field (exec .loadSlot (offering State.reset .loadSlot [12, 0, 0, 0x1D, 0xCF, 0x3B, 0xB4, 2])) (·.slots[(12 : SlotNo)])
        = some (some ⟨500120500, 2, 0, false, none⟩)
      ∧ answers State.reset .loadSlot [12, 0, 0, 0x1D, 0xCF, 0x3B, 0xB4, 16] = some [.badValue] := by decide +kernel

/-- 6.8 step 4: the slot is in flight. -/
theorem test_clear_slot_busy :
    answers (cappedAt .confirmed .sailing ⟨500120500, 2, 1, true, none⟩) .clearSlot [12] = some [.slotBusy] := by decide +kernel

/-- 4.12: a capacity of 45 against a ceiling of 40 is clamped. -/
theorem test_open_sailing_clamped :
    field (exec .openSailing (offering (passing sailing1) .openSailing [3, 0x03, 0x71, 5, 0, 45]))
      (fun s => (s.sailings[(3 : BerthNo)].map (·.capacity), s.reserved, replies s)) = some (some 40, 3, [.clamped]) := by
  decide +kernel
/-- R64: line 9 has no loaded band. -/
theorem test_open_sailing_no_band : answers (passing sailing1) .openSailing [3, 0x03, 0x71, 9, 0, 45] = some [.badValue] := by
  decide +kernel

/-- R72 rows 4 and 5. -/
theorem test_depart :
    field (exec .depart (offering (passing sailing1) .depart [1])) (fun s => s.sailings[(1 : BerthNo)].map (·.state))
        = some (some .closing)
      ∧ field (exec .depart (offering mustering .depart [1]))
          (fun s => (s.sailings[(1 : BerthNo)].isSome, s.written.length, s.reserved)) = some (false, 1, 0) := by decide +kernel

/-- Two records, numbered 65,535 and 0 as in 8.10. -/
def twoRecords : State :=
  { State.reset with
    written := [⟨65535, .summary (summaryFields 1 sailing1 ⟨413, 600⟩)⟩, ⟨0, .summary (summaryFields 2 sailing1 ⟨413, 600⟩)⟩]
    nextSeq := 1
    queueHighArmed := false }

theorem test_fetch_records :
    field (exec .fetchRecords (offering twoRecords .fetchRecords [16])) (fun s => (s.outgoing.length, s.outgoing.getLast?, s.written.length))
      = some (3, some (.reply 0x13 7 .ok (.sent 2)), 2) := by decide +kernel

/-- R140: an acknowledgement of 0 after 65,535 removes both; 8.10 step 10: a number not yet written. -/
theorem test_ack_records :
    field (exec .ackRecords (offering twoRecords .ackRecords [0, 0])) (fun s => (s.written.length, s.queueHighArmed)) = some (0, true)
      ∧ field (exec .ackRecords (offering twoRecords .ackRecords [0, 1])) (·.outgoing)
        = some [.reply 0x14 7 .badSeq (.oldest (some 65535))] := by decide +kernel

/-- R175, R25: three frames, and the named gate's counts cleared. -/
theorem test_status :
    field (exec .status (offering { State.reset with gates := gate7 { GateContext.reset with strays := 1 } } .status [7]))
      (fun s => (s.outgoing.length, s.gates[(7 : Gate)].strays)) = some (3, 0) := by decide +kernel

/-- 11.7 steps 4 and 5: an unknown code; FETCH_RECORDS with its count missing. -/
theorem test_unknown_and_malformed :
    field (exec .unknownCommand { State.reset with receiveList := [⟨0x17, 12, []⟩] }) (·.outgoing)
        = some [.reply 0x17 12 .unknownCommand .nothing]
      ∧ answers State.reset .fetchRecords [] = some [.malformed] := by decide +kernel

/-- R169, R170: a good MGMT frame joins the list; one that finds 8 waiting is discarded. -/
theorem test_mgmt_frame_arrival :
    field (exec (.mgmtFrameArrival (mgmtBytes ⟨0x15, 7, [3]⟩)) State.reset) (·.receiveList) = some [⟨0x15, 7, [3]⟩]
      ∧ field (exec (.mgmtFrameArrival (mgmtBytes ⟨0x15, 7, [3]⟩)) { State.reset with receiveList := List.replicate 8 ⟨1, 1, []⟩ })
          (·.receiveList.length) = some 8 := by decide +kernel

theorem test_uplink_frame_sent :
    field (exec .uplinkFrameSent { State.reset with outgoing := [.reply 0x16 7 .ok .nothing] })
      (fun s => (s.outgoing, s.uplinkTx.take 6)) = some ([], [0xA5, 0x50, 3, 0x16, 7, 0]) := by decide +kernel

/-! ### Resets and the clock -/

/-- R166: RESET is answered, and its reset does not begin while its REPLY waits. -/
theorem test_reset_taken :
    field (exec .reset (offering State.reset .reset [])) (fun s => (s.phase, replies s)) = some (.resetTaken, [.ok])
      ∧ field (exec .commandResetBegin { State.reset with phase := .resetTaken }) (·.phase) = some .resetTaken := by decide +kernel

theorem test_command_reset_begins :
    field (exec .commandResetBegin { passing sailing1 with phase := .resetTaken, laneOut := Vector.replicate 16 [], timeBase := 5 })
      (fun s => (s.phase, s.reserved)) = some (.commandReset 5, 0) := by decide +kernel

/-- 10.7: after a COMMAND reset the clock and ceilings are set and an enabled gate is ACTIVE. -/
theorem test_command_reset_end :
    field (exec .commandResetEnd { passing sailing1 with phase := .commandReset 5 })
      (fun s => (s.service, s.clock.isSome, s.ceilings.isSome, s.gates[(7 : Gate)].state, s.timeBase))
      = some (.config, true, true, .active, 6) := by decide +kernel

/-- R165: held in reset by the line, the reset is POWER all the same. -/
theorem test_power_up :
    field (exec .powerUp (passing sailing1)) (·.phase) = some (.powerReset false)
      ∧ field (exec .powerUpComplete { State.reset with phase := .powerReset false, resetLine := true }) (·.phase)
        = some (.powerReset true)
      ∧ field (exec .resetLineReleased { twoRecords with phase := .powerReset true, resetLine := true })
          (fun s => (s.phase, s.resetCause, s.written.length)) = some (.running, .power, 0) := by decide +kernel

/-- 10.7: a LINE reset keeps the records and unsets the clock. -/
theorem test_line_reset :
    field (exec .resetLineAsserted twoRecords) (fun s => (s.phase, s.resetLine)) = some (.lineReset, true)
      ∧ field (exec .resetLineReleased { twoRecords with phase := .lineReset, resetLine := true, clock := some ⟨413, 30000⟩ })
          (fun s => (s.resetCause, s.written.length, s.nextSeq, s.clock)) = some (.line, 2, 1, none) := by decide +kernel

/-- 6.8 step 13: at midnight slot 12, not in flight, goes to 0 uses and slot 20, in flight, to 1. -/
theorem test_day_rollover :
    field (exec .clockSecond { State.reset with
        clock := some ⟨413, 86399⟩
        slots := ((Vector.replicate 64 none).set 12 (some ⟨500120500, 2, 2, false, some ⟨413, 26265⟩⟩)).set 20
          (some ⟨612000017, 1, 1, true, none⟩) })
      (fun s => (s.clock, s.slots[(12 : SlotNo)].map (·.uses), s.slots[(20 : SlotNo)].map (·.uses)))
      = some (some ⟨414, 0⟩, some 0, some 1) := by decide +kernel

/-! ### Witnesses: states and operands that meet the hypotheses of each statement, clause by clause, at the ends of ranges -/

/-- A running part with room on the uplink offers the command it is given. -/
theorem offering_offers (s : State) (c : Command) (args : List Byte) (hp : s.phase = .running)
    (hr : s.outgoing.length + s.waitingWrites.length + (if s.waitingActivation.isSome then 1 else 0) ≤ 47) :
    (offering s c args).offers c 7 args [] := ⟨hp, rfl, hr⟩

/-- State.reset offers any command it is given. -/
theorem reset_offers (c : Command) (args : List Byte) : (offering State.reset c args).offers c 7 args [] :=
  offering_offers _ _ _ rfl (by decide)

/-- The part of case 1 is deciding tap 401 at the stage of the decision given. -/
theorem atStage_deciding (k : Counting) (d : Decision) (card : CardData) (hg : d.gate = 7) (ht : d.tap = 401) :
    (atStage k d card).deciding d.stage d (deciding401 card) := by
  refine ⟨rfl, rfl, rfl, ?_⟩
  simp only [hg, ht]
  rfl

theorem witness_StepTakesFrontCommand :
    { State.reset with pending := [Instr.grant, .status] }.pending = Instr.grant :: [.status] ∧ State.reset.pending = [] := by decide

theorem witness_PowerAndLineResetGiveResetValues :
    let at' (p : Phase) (line : Bool) : State := { State.reset with phase := p, resetLine := line }
    ((at' (.powerReset false) false).phase = .powerReset false ∧ (at' (.powerReset false) false).resetLine = false)
      ∧ (at' (.powerReset true) true).phase = .powerReset true ∧ (at' (.powerReset true) true).resetLine = true
      ∧ (at' (.powerReset false) true).phase = .powerReset false ∧ (at' .lineReset true).phase = .lineReset
      ∧ (at' .lineReset true).resetLine = true := by decide

theorem witness_CommandResetKeepsTables : { State.reset with phase := Phase.commandReset 0 }.phase = .commandReset 0 := by decide

theorem witness_ResetsBeginAndDropWork :
    (offering State.reset .reset []).offers .reset 7 [] []
      ∧ (let s : State := { State.reset with phase := .resetTaken, laneOut := Vector.replicate 16 [] }
        s.phase = .resetTaken ∧ s.outgoing = [] ∧ ∀ g : Gate, s.laneOut[g] = [])
      ∧ (let s : State := { State.reset with phase := .resetTaken }
        s.phase = .resetTaken ∧ (s.outgoing ≠ [] ∨ ∃ g : Gate, s.laneOut[g] ≠ []))
      ∧ State.reset.resetLine = false :=
  ⟨reset_offers _ _, by decide +kernel, ⟨rfl, .inr ⟨0, by decide +kernel⟩⟩, rfl⟩

theorem witness_PartInResetTakesNothing :
    { State.reset with phase := Phase.resetTaken }.phase ≠ .running
      ∧ { State.reset with phase := Phase.lineReset }.phase ≠ .running
      ∧ { State.reset with phase := Phase.lineReset }.phase ≠ .resetTaken ∧ takesEvent .grant = true := by decide

theorem witness_ClockSecondAdvancesClock :
    State.reset.clock = none
      ∧ (∃ d n, { State.reset with clock := some ⟨413, 86398⟩ }.clock = some ⟨d, n⟩ ∧ n < 86399)
      ∧ (∃ d, d < 65535 ∧ { State.reset with clock := some ⟨65534, 86399⟩ }.clock = some ⟨d, 86399⟩)
      ∧ { State.reset with clock := some ⟨65535, 86399⟩ }.clock = some ⟨65535, 86399⟩ :=
  ⟨rfl, ⟨413, 86398, rfl, by decide⟩, ⟨65534, by decide, rfl⟩, rfl⟩

theorem witness_SetTimeSetsClock (second : BitVec 24) :
    (offering State.reset .setTime (SetTimeArgs.bytes ⟨65535, second⟩)).offers .setTime 7 (SetTimeArgs.bytes ⟨65535, second⟩) [] :=
  reset_offers _ _

theorem witness_SetLimitsByTable (a : SetLimitsArgs) : (offering State.reset .setLimits a.bytes).offers .setLimits 7 a.bytes [] :=
  reset_offers _ _

theorem witness_SetParametersClampsAndApplies (a : SetParametersArgs) :
    (offering State.reset .setParameters a.bytes).offers .setParameters 7 a.bytes [] := reset_offers _ _

theorem witness_SetAlertMaskSetsThreeFlags (a : SetAlertMaskArgs) :
    (offering State.reset .setAlertMask a.bytes).offers .setAlertMask 7 a.bytes [] := reset_offers _ _

/-- A CONFIG part that holds no work, with everything START_SERVICE asks for. -/
def ready : State :=
  { State.reset with clock := some ⟨413, 18330⟩, ceilings := some #v[1, 999, 90, 40], activeBank := some .bankA }

theorem witness_StartServiceByTable :
    ((offering mustering .startService []).offers .startService 7 [] [] ∧ mustering.service ≠ .config)
      ∧ (∀ s ∈ [State.reset, { State.reset with clock := some ⟨0, 0⟩ }, { ready with activeBank := none }, ready,
          { ready with musterLine := true }, { ready with commandRequest := true }],
        (offering s .startService []).offers .startService 7 [] [] ∧ s.service = .config)
      ∧ State.reset.clock = none ∧ State.reset.ceilings = none ∧ ready.clock ≠ none ∧ ready.ceilings ≠ none
      ∧ ready.activeBank ≠ none ∧ ready.musterLine = false ∧ ready.commandRequest = false ∧ ready.engine = none
      ∧ ready.waitingActivation = none ∧ (∀ g : Gate, ready.gates[g].list = []) ∧ ∀ b : BerthNo, ready.sailings[b] = none := by
  refine ⟨⟨offering_offers _ _ _ rfl (by decide), by decide⟩, ?_, by decide +kernel⟩
  intro s hs
  simp only [List.mem_cons, List.not_mem_nil, or_false] at hs
  rcases hs with rfl | rfl | rfl | rfl | rfl | rfl <;> exact ⟨offering_offers _ _ _ rfl (by decide), rfl⟩

theorem witness_StopServiceByTable : (offering mustering .stopService []).offers .stopService 7 [] [] :=
  offering_offers _ _ _ rfl (by decide)

theorem witness_MusterRequestsOutsideEntry :
    (offering mustering .musterEnd []).offers .musterEnd 7 [] []
      ∧ (let s : State := { mustering with musterLine := true }; s.phase = .running ∧ s.musterLine = true)
      ∧ (State.reset.phase = .running ∧ State.reset.service ≠ .inService)
      ∧ (offering State.reset .musterStart []).offers .musterStart 7 [] [] :=
  ⟨offering_offers _ _ _ rfl (by decide), by decide, by decide, reset_offers _ _⟩

theorem witness_MusterEntryTakenWhole :
    beforeMuster.phase = .running ∧ beforeMuster.service = .inService ∧ beforeMuster.clock = some ⟨413, 600⟩
      ∧ Accounted beforeMuster ∧ PlacesKept beforeMuster ∧ UsesKept beforeMuster ∧ WaitersHaveCause beforeMuster
      ∧ beforeMuster.musterLine = false :=
  ⟨rfl, rfl, rfl, by decide +kernel, ⟨by decide +kernel, by decide +kernel, by decide +kernel⟩,
    ⟨by decide +kernel, by decide +kernel, by decide +kernel⟩, by decide +kernel, rfl⟩

/-- The same with the MUSTER_START frame at the front. -/
theorem witness_MusterEntryTakenWhole_by_command :
    (offering beforeMuster .musterStart []).offers .musterStart 7 [] [] ∧ Accounted (offering beforeMuster .musterStart [])
      ∧ PlacesKept (offering beforeMuster .musterStart []) ∧ UsesKept (offering beforeMuster .musterStart []) :=
  ⟨offering_offers _ _ _ rfl (by decide), by decide +kernel, ⟨by decide +kernel, by decide +kernel, by decide +kernel⟩,
    ⟨by decide +kernel, by decide +kernel, by decide +kernel⟩⟩

theorem witness_GateConfigByTable (a : GateConfigArgs) :
    (offering State.reset .gateConfig a.bytes).offers .gateConfig 7 a.bytes []
      ∧ (15 < (16 : Byte).toNat) ∧ (15 : Byte).toNat = (15 : Gate).val
      ∧ (∃ (b : GateConfigArgs) (v : GateSettings), b = ⟨15, 1, 3, 3, 1, 1⟩ ∧ v.enabled = decide (b.enabled = 1)
        ∧ b.enabled.toNat ≤ 1 ∧ (v.berth = none ∧ b.berth = 255 ∨ v.berth.map (·.val) = some b.berth.toNat)
        ∧ b.priority.toNat = v.priority.val ∧ b.counting = (if v.counting = .confirmed then 0 else 1)
        ∧ b.lane = (if v.lane = .standard then 0 else 1))
      ∧ ∃ (b : GateConfigArgs) (v : GateSettings), b = ⟨0, 0, 255, 0, 0, 0⟩ ∧ v.enabled = decide (b.enabled = 1)
        ∧ (v.berth = none ∧ b.berth = 255 ∨ v.berth.map (·.val) = some b.berth.toNat) :=
  ⟨reset_offers _ _, by decide, by decide,
    ⟨⟨15, 1, 3, 3, 1, 1⟩, ⟨true, some 3, 3, .direct, .tandem⟩, rfl, by decide, by decide, by decide, by decide, by decide, by decide⟩,
    ⟨0, 0, 255, 0, 0, 0⟩, ⟨false, none, 0, .confirmed, .standard⟩, rfl, by decide, by decide⟩

theorem witness_LoadFilterByTable (a : LoadFilterArgs) :
    (offering State.reset .loadFilter a.bytes).offers .loadFilter 7 a.bytes []
      ∧ (offering searching37 .loadFilter a.bytes).offers .loadFilter 7 a.bytes []
      ∧ 127 < (128 : Byte).toNat ∧ (127 : Byte).toNat = (127 : FilterIndex).val :=
  ⟨reset_offers _ _, offering_offers _ _ _ rfl (by decide), by decide, by decide⟩

theorem witness_LoadFareWritesFreeBank :
    (let a : LoadFareArgs := ⟨0, 3, 7, [1, 0] ++ List.replicate 20 9⟩;
      a.contents.length = 22 ∧ (offering State.reset .loadFare a.bytes).offers .loadFare 7 a.bytes []
        ∧ a.bank = bankCode .bankA ∧ tableCode (.concession 7) = (a.table, a.index.toNat)
        ∧ shapeFits (.concession 7) (.concession 256) ∧ entryInRange (.concession 256)
        ∧ (entryBytes (.concession 256)).isPrefixOf a.contents = true ∧ ¬ Held State.reset .bankA ∧ Held ready .bankA)
      ∧ noSuchEntry 3 8
      ∧ ∀ e, shapeFits (.concession 7) e → entryInRange e →
        (entryBytes e).isPrefixOf ([1, 1] ++ List.replicate 20 9 : List Byte) = false := by
  refine ⟨⟨rfl, reset_offers _ _, rfl, rfl, trivial, Nat.le_refl 256, by decide +kernel, ?_, .inl rfl⟩, ?_, ?_⟩
  · rintro (h | h) <;> exact absurd h (by decide)
  · intro i
    cases i with
    | product j => intro h; have e : (0 : Byte) = 3 := congrArg Prod.fst h; exact absurd e (by decide)
    | band j => intro h; have e : (1 : Byte) = 3 := congrArg Prod.fst h; exact absurd e (by decide)
    | curve j => intro h; have e : (2 : Byte) = 3 := congrArg Prod.fst h; exact absurd e (by decide)
    | concession j => intro h; have := congrArg Prod.snd h; have := j.isLt; simp [tableCode] at *; omega
  · intro e hs hr
    cases e with
    | product e => exact hs.elim
    | band e => exact hs.elim
    | curve e => exact hs.elim
    | concession q =>
      have key : ∀ n : Fin 257, (entryBytes (.concession n.val)).isPrefixOf ([1, 1] ++ List.replicate 20 9 : List Byte) = false := by
        decide +kernel
      exact key ⟨q, Nat.lt_succ_of_le hr⟩

theorem witness_ClearBankUnloadsFreeBank :
    (offering ready .clearBank [0]).offers .clearBank 7 [0] [] ∧ Held ready .bankA ∧ ¬ Held ready .bankB
      ∧ (0 : Byte) = bankCode .bankA ∧ 1 < (2 : Byte).toNat := by
  refine ⟨offering_offers _ _ _ rfl (by decide), .inl rfl, ?_, rfl, by decide⟩
  rintro (h | h) <;> exact absurd h (by decide)

theorem witness_ActivateBankByTable (a : ActivateBankArgs) :
    (offering State.reset .activateBank a.bytes).offers .activateBank 7 a.bytes [] ∧ 1 < (2 : Byte).toNat
      ∧ (1 : Byte) = bankCode .bankB := ⟨reset_offers _ _, by decide, rfl⟩

theorem witness_ReadEntryReturnsEntry (a : ReadEntryArgs) :
    (offering State.reset .readEntry a.bytes).offers .readEntry 7 a.bytes [] ∧ 1 < (2 : Byte).toNat
      ∧ tableCode (.product 63) = (0, (63 : Byte).toNat) := ⟨reset_offers _ _, by decide, by decide⟩

theorem witness_LoadSlotByTable (a : LoadSlotArgs) :
    (offering State.reset .loadSlot a.bytes).offers .loadSlot 7 a.bytes [] ∧ 63 < (64 : Byte).toNat
      ∧ (63 : Byte).toNat = (63 : SlotNo).val ∧ ¬ Busy State.reset 63
      ∧ Busy (cappedAt .confirmed .sailing ⟨500120500, 2, 1, true, none⟩) 12 := by
  refine ⟨reset_offers _ _, by decide, by decide, ?_, .inl (by decide +kernel)⟩
  rintro (h | h) <;> revert h <;> decide +kernel

/-- The capped pass of 6.8 with its slot emptied. -/
def emptySlot : State := atStage .confirmed (capped .productKind) { card1 with product := 2 }

theorem witness_ClearSlotEmptiesFreeSlot :
    (offering State.reset .clearSlot [63]).offers .clearSlot 7 [63] [] ∧ ¬ Busy State.reset 63
      ∧ emptySlot.deciding .productKind (capped .productKind) (deciding401 { card1 with product := 2 })
      ∧ (capped .productKind).kind = some .cappedPass ∧ (capped .productKind).slot = some 12
      ∧ emptySlot.slots[(12 : SlotNo)] = none ∧ (capped .productKind).found = some ⟨1, 881, 5⟩
      ∧ ((emptySlot.bank .bankA).products[(2 : Byte).toNat]?).join = some ⟨.cappedPass, 0xFFFFFFFF⟩
      ∧ (0xFFFFFFFF : BitVec 32).getLsbD 5 = true ∧ card1.passExpiry = some 413
      ∧ (capped .productKind).time.day ≤ (413 : BitVec 16).toNat := by
  refine ⟨reset_offers _ _, ?_, atStage_deciding _ _ _ rfl rfl, rfl, rfl, by decide +kernel, rfl, by decide +kernel, by decide,
    rfl, by decide⟩
  rintro (h | h) <;> revert h <;> decide +kernel

theorem witness_OpenSailingByTable :
    (∀ a : OpenSailingArgs, (offering (passing sailing1) .openSailing a.bytes).offers .openSailing 7 a.bytes [])
      ∧ (passing sailing1).service = .inService ∧ (passing sailing1).sailings[(3 : BerthNo)] = none
      ∧ (passing sailing1).sailings[(1 : BerthNo)] ≠ none ∧ State.reset.service ≠ .inService
      ∧ ((passing sailing1).activeBank.bind fun n => ((passing sailing1).bank n).bands[(5 : LineCode)]) ≠ none
      ∧ ((passing sailing1).activeBank.bind fun n => ((passing sailing1).bank n).bands[(31 : LineCode)]) = none
      ∧ (passing sailing1).written.length + (passing sailing1).reserved < 256
      ∧ 256 ≤ (passing sailing1).written.length + { passing sailing1 with reserved := 256 }.reserved
      ∧ (passing sailing1).ceilings = some #v[200, 150, 90, 40] ∧ (passing sailing1).clock = some ⟨413, 600⟩
      ∧ 3 < (4 : Byte).toNat ∧ 31 < (32 : Byte).toNat ∧ 9999 < (10000 : BitVec 16).toNat :=
  ⟨fun _ => offering_offers _ _ _ rfl (by decide), by decide +kernel⟩

theorem witness_DepartByTable :
    (∀ s ∈ [State.reset, passing sailing1, passing { sailing1 with state := .closing }, mustering],
        (offering s .depart [1]).offers .depart 7 [1] [])
      ∧ State.reset.sailings[(1 : BerthNo)] = none
      ∧ (passing sailing1).sailings[(1 : BerthNo)] = some { sailing1 with held := 1 }
      ∧ (mustering.sailings[(1 : BerthNo)].map (·.state)) = some .suspended ∧ mustering.clock = some ⟨413, 600⟩
      ∧ ((passing { sailing1 with state := .closing }).sailings[(1 : BerthNo)].map (·.state)) = some .closing
      ∧ (draining.sailings[(1 : BerthNo)].map fun sl => (sl.state, sl.held)) = some (.boarding, 0) ∧ 3 < (4 : Byte).toNat := by
  refine ⟨?_, by decide +kernel⟩
  intro s hs
  simp only [List.mem_cons, List.not_mem_nil, or_false] at hs
  rcases hs with rfl | rfl | rfl | rfl <;> exact offering_offers _ _ _ rfl (by decide)

theorem witness_FetchRecordsSendsOldest (n : Byte) :
    (offering twoRecords .fetchRecords [n]).offers .fetchRecords 7 [n] [] := offering_offers _ _ _ rfl (by decide)

theorem witness_AckRecordsRemovesUpToNumber (n : SeqNumber) :
    (offering twoRecords .ackRecords (beBytes 2 n.toNat)).offers .ackRecords 7 (beBytes 2 n.toNat) []
      ∧ (∀ r ∈ twoRecords.written, r.seq ≠ 1)
      ∧ (∃ front left r, twoRecords.written = front ++ r :: left ∧ r.seq = 65535 ∧ ∀ q ∈ front, q.seq ≠ 65535)
      ∧ ∃ front left r, twoRecords.written = front ++ r :: left ∧ r.seq = 0 ∧ ∀ q ∈ front, q.seq ≠ 0 :=
  ⟨offering_offers _ _ _ rfl (by decide), by decide +kernel, ⟨[], _, _, rfl, rfl, by decide⟩, ⟨[_], [], _, rfl, rfl, by decide +kernel⟩⟩

theorem witness_StatusReadsEveryBlock :
    (offering State.reset .status []).offers .status 7 [] [] ∧ (offering State.reset .status [15]).offers .status 7 [15] []
      ∧ (15 : Byte).toNat = (15 : Gate).val ∧ 15 < (16 : Byte).toNat := ⟨reset_offers _ _, reset_offers _ _, by decide, by decide⟩

theorem witness_OldestFrameLeavesFirst :
    State.reset.phase = .running ∧ State.reset.laneOut[(15 : Gate)] = .gateMode .closed :: []
      ∧ { State.reset with outgoing := [UplinkFrame.reply 0x15 7 .ok .nothing] }.outgoing = .reply 0x15 7 .ok .nothing :: []
      ∧ { State.reset with phase := Phase.resetTaken }.phase = .resetTaken := by decide +kernel

theorem witness_UnknownAndMalformedAreAnswered :
    (∀ code ∈ ([0x00, 0x17, 0xFF] : List Byte), ∀ c : Command, c.code ≠ code)
      ∧ { State.reset with receiveList := [⟨0x17, 7, []⟩] }.receiveList = ⟨0x17, 7, []⟩ :: []
      ∧ (∀ c : Command, (offering State.reset c (List.replicate 26 0)).offers c 7 (List.replicate 26 0) [])
      ∧ ∀ c : Command, (List.replicate 26 (0 : Byte)).length ∉ argLengths c := by
  refine ⟨?_, rfl, fun c => reset_offers c _, fun c => by cases c <;> decide⟩
  intro code hc c
  simp only [List.mem_cons, List.not_mem_nil, or_false] at hc
  rcases hc with rfl | rfl | rfl <;> cases c <;> decide

theorem witness_MgmtFrameJoinsReceiveList :
    State.reset.phase = .running ∧ State.reset.uplinkRx = .hunting ∧ (List.replicate 120 (0 : Byte)).length ≤ 120
      ∧ 120 < (121 : Byte).toNat := by decide

theorem witness_TapAnsweredByFirstRow :
    State.reset.phase = .running ∧ State.reset.laneRx[(0 : Gate)] = .hunting ∧ State.reset.laneRx[(15 : Gate)] = .hunting
      ∧ (List.replicate 26 (0xFF : Byte)).length = 26 := by decide +kernel

theorem witness_BadLaneFramesAreCounted :
    State.reset.phase = .running ∧ State.reset.laneRx[(15 : Gate)] = .hunting
      ∧ (∃ check : BitVec 16, check ≠ checkWord [0x10, 0])
      ∧ ((0x10 : Byte) = 0x10 ∧ (List.replicate 27 (0 : Byte)).length ≠ 26) ∧ (List.replicate 2 (0 : Byte)).length ≠ 3
      ∧ (0x20 : Byte) ≠ 0x10 ∧ (0x20 : Byte) ≠ 0x11 ∧ 120 < (121 : Byte).toNat :=
  ⟨rfl, by decide +kernel, ⟨~~~ checkWord [0x10, 0], by decide +kernel⟩, by decide, by decide, by decide, by decide, by decide⟩

theorem witness_AwaitingTransactionEndings :
    (passing sailing1).phase = .running ∧ (passing sailing1).clock = some ⟨413, 600⟩
      ∧ findTap (passing sailing1).gates[(7 : Gate)].list 401 = some awaiting401
      ∧ awaiting401.state = .awaiting ⟨opened401, ⟨0, 80⟩, .passenger, none⟩
      ∧ (passing sailing1).laneRx[(7 : Gate)] = .hunting := by decide +kernel

theorem witness_StrayReportsAreCounted :
    State.reset.phase = .running ∧ State.reset.laneRx[(0 : Gate)] = .hunting ∧ 3 < (4 : Byte).toNat
      ∧ (findTap State.reset.gates[(0 : Gate)].list 401).isNone = true
      ∧ ∀ t, findTap State.reset.gates[(0 : Gate)].list 401 = some t → ∀ a, t.state ≠ .awaiting a := by
  have h : findTap State.reset.gates[(0 : Gate)].list 401 = none := by decide +kernel
  refine ⟨rfl, by decide +kernel, by decide, by rw [h]; rfl, fun t ht => ?_⟩
  rw [h] at ht
  exact absurd ht (by simp)

theorem witness_TapWaitExpiryAnswersRetry :
    draining.phase = .running ∧ findTap draining.gates[(7 : Gate)].list 402 = some pending402
      ∧ pending402.state = .pending ⟨0, 30⟩ := by decide +kernel

/-- Tap 33 of gate 11 in 2.6. -/
def tap33 : Transaction := ⟨33, card1, 0, .pending ⟨0, 30⟩⟩

theorem witness_GrantTakesTheWinner :
    busyLine.phase = .running ∧ busyLine.gates[(11 : Gate)].list = [] ++ tap33 :: []
      ∧ (busyLine.gates[(11 : Gate)].list.map (·.tap)).Nodup ∧ Eligible busyLine 11 tap33
      ∧ (∀ g' t', Eligible busyLine g' t' → busyLine.gates[g'].config.priority < busyLine.gates[(11 : Gate)].config.priority
        ∨ (busyLine.gates[g'].config.priority = busyLine.gates[(11 : Gate)].config.priority ∧ turn busyLine 11 ≤ turn busyLine g'))
      ∧ busyLine.activeBank = some .bankA ∧ busyLine.clock = some ⟨413, 600⟩ ∧ ∀ g t, ¬ Eligible State.reset g t := by
  have key : ∀ g' : Gate, busyLine.gates[g'].list ≠ [] →
      busyLine.gates[g'].config.priority < busyLine.gates[(11 : Gate)].config.priority
        ∨ (busyLine.gates[g'].config.priority = busyLine.gates[(11 : Gate)].config.priority ∧ turn busyLine 11 ≤ turn busyLine g') := by
    decide +kernel
  refine ⟨rfl, by decide +kernel, by decide +kernel, ?_, fun g' t' h => key g' (List.ne_nil_of_mem h.1), rfl, rfl, ?_⟩
  · exact ⟨by decide +kernel, rfl, by decide +kernel, rfl, rfl, rfl, by decide +kernel⟩
  · intro g t h
    exact absurd h.2.2.2.1 (by decide)

theorem witness_FirstStagesFindSailingAndCheckCard :
    (atStage .confirmed (decision .sailing) card1).deciding .sailing (decision .sailing) (deciding401 card1)
      ∧ ((atStage .confirmed (decision .sailing) card1).gates[(7 : Gate)].config.berth = some 1)
      ∧ ((atStage .confirmed (decision .sailing) card1).sailings[(1 : BerthNo)].map (·.state)) = some .boarding
      ∧ (atStage .confirmed (decision .cardData) card1).deciding .cardData (decision .cardData) (deciding401 card1)
      ∧ ¬ OutOfRange card1 ∧ OutOfRange { card1 with issuer := 255 } ∧ OutOfRange { card1 with concession := 8 } := by
  refine ⟨atStage_deciding _ _ _ rfl rfl, by decide +kernel, by decide +kernel, atStage_deciding _ _ _ rfl rfl, ?_, .inr (.inl rfl),
    .inr (.inr (.inl (by decide)))⟩
  rintro (h | h | h | h | h | ⟨b, hb, h⟩)
  · exact absurd h (by decide)
  · exact absurd h (by decide)
  · exact absurd h (by decide)
  · exact absurd h (by decide)
  · exact absurd h (by decide)
  · cases hb
    exact absurd h (by decide)

theorem witness_FilterStageActsByFirstMatch :
    (atStage .confirmed (decision .filter) card1).deciding .filter (decision .filter) (deciding401 card1)
      ∧ (atStage .confirmed (decision .searching) card1).deciding .searching (decision .searching) (deciding401 card1)
      ∧ SearchEndsAt (Vector.replicate 128 none) card1.media card1.issuer none
      ∧ SearchEndsAt ((Vector.replicate 128 none).set 127 (some ⟨.priority, .masked, 0, 0, none⟩)) card1.media card1.issuer
        (some (127, ⟨.priority, .masked, 0, 0, none⟩)) := by
  refine ⟨atStage_deciding _ _ _ rfl rfl, atStage_deciding _ _ _ rfl rfl, ?_, ?_, ?_, ?_⟩
  · rintro j ⟨r, h, -⟩
    simp at h
  · rfl
  · exact ⟨_, rfl, fun i h => absurd h (by simp), .inl rfl⟩
  · rintro j hj ⟨r, h, -⟩
    have hne : (127 : Nat) ≠ j.val := by
      intro e
      have := Fin.lt_def.mp hj
      simp at this
      omega
    simp [hne] at h

theorem witness_ProductAndCapacityStages :
    let s := atStage .confirmed (decision .product) card1
    let c := atStage .confirmed (decision .capacity) card1
    (decision .product).found = some ⟨1, 881, 5⟩ ∧ (decision .capacity).found = some ⟨1, 881, 5⟩
      ∧ s.deciding .product (decision .product) (deciding401 card1) ∧ c.deciding .capacity (decision .capacity) (deciding401 card1)
      ∧ ((s.bank .bankA).products[(0 : Byte).toNat]?).join = some ⟨.storedValue, 0⟩
      ∧ ((s.bank .bankA).products[(63 : Byte).toNat]?).join = none ∧ (s.bank .bankA).bands[(5 : LineCode)] ≠ none
      ∧ (c.sailings[(1 : BerthNo)].map fun sl => (sl.boarded + sl.held, sl.capacity)) = some (99, 150)
      ∧ (decision .capacity).change = .unchanged
      ∧ (atStage .confirmed { decision .capacity with change := .left } card1).deciding .capacity
        { decision .capacity with change := .left } (deciding401 card1) :=
  ⟨rfl, rfl, atStage_deciding _ _ _ rfl rfl, atStage_deciding _ _ _ rfl rfl, by decide +kernel, by decide +kernel,
    by decide +kernel, by decide +kernel, rfl, atStage_deciding _ _ _ rfl rfl⟩

theorem witness_CapacityStageAfterCloseGoesOn :
    (atStage .confirmed { decision .capacity with change := .closed } card1).deciding .capacity
      { decision .capacity with change := .closed } (deciding401 card1) := atStage_deciding _ _ _ rfl rfl

theorem witness_ProductKindStageByTable :
    emptySlot.deciding .productKind (capped .productKind) (deciding401 { card1 with product := 2 })
      ∧ (capped .productKind).found = some ⟨1, 881, 5⟩ ∧ (capped .productKind).kind = some ProductKind.cappedPass
      ∧ ((emptySlot.bank .bankA).products[(2 : Byte).toNat]?).join = some ⟨.cappedPass, 0xFFFFFFFF⟩
      ∧ ((emptySlot.bank .bankA).products[(1 : Byte).toNat]?).join = some ⟨.periodPass, 0xFFFFFFFF⟩ :=
  ⟨atStage_deciding _ _ _ rfl rfl, rfl, rfl, by decide +kernel, by decide +kernel⟩

theorem witness_FareStagePricesTap :
    let s := atStage .confirmed (decision .fare) card1
    s.deciding .fare (decision .fare) (deciding401 card1) ∧ (decision .fare).found = some ⟨1, 881, 5⟩
      ∧ (s.bank .bankA).bands[(5 : LineCode)] = some band5 ∧ (decision .fare).kind = some .storedValue
      ∧ (decision .fare).occupancy = some ⟨99, 150⟩ :=
  ⟨atStage_deciding _ _ _ rfl rfl, rfl, by decide +kernel, rfl, rfl⟩

theorem witness_VerdictRefuses :
    (let d := { decision .verdict with refusal := some Reason.lowBalance };
      (atStage .confirmed d card1).deciding .verdict d (deciding401 card1) ∧ (atStage .confirmed d card1).clock = some ⟨413, 600⟩
        ∧ d.refusal = some .lowBalance)
      ∧ (let d := { decision .verdict with change := .left };
        (atStage .confirmed d card1).deciding .verdict d (deciding401 card1) ∧ d.refusal = none ∧ d.change ≠ .unchanged) :=
  ⟨⟨atStage_deciding _ _ _ rfl rfl, rfl, rfl⟩, atStage_deciding _ _ _ rfl rfl, rfl, by decide⟩

theorem witness_VerdictOpensAtConfirmedGate :
    let s := atStage .confirmed (decision .verdict) card1
    s.deciding .verdict (decision .verdict) (deciding401 card1) ∧ s.clock = some ⟨413, 600⟩ ∧ (decision .verdict).refusal = none
      ∧ (decision .verdict).change = .unchanged ∧ (decision .verdict).found = some ⟨1, 881, 5⟩
      ∧ s.gates[(7 : Gate)].config.counting = .confirmed :=
  ⟨atStage_deciding _ _ _ rfl rfl, rfl, rfl, rfl, rfl, by decide +kernel⟩

theorem witness_VerdictOpensAtDirectGate :
    let s := atStage .direct (decision .verdict) card1
    s.deciding .verdict (decision .verdict) (deciding401 card1) ∧ s.clock = some ⟨413, 600⟩
      ∧ (decision .verdict).found = some ⟨1, 881, 5⟩ ∧ s.gates[(7 : Gate)].config.counting = .direct :=
  ⟨atStage_deciding _ _ _ rfl rfl, rfl, rfl, by decide +kernel⟩

theorem witness_CurveFactorByFormula :
    (998 < 999) ∧ (200 ≤ 255 ∧ curveSegment curve2 200 = curveSegment curve2 255 ∧ (curveSegment curve2 200).source ≤ 200) := by decide

theorem witness_FaresStayWithinBand :
    band5.floor ≤ band5.ceiling ∧ (decision .fare).charged = 0 ∧ (decision .fare).refusal = none
      ∧ (fares.concessions[(3 : Byte).toNat]?).join = some 0 ∧ (fares.concessions[(0 : Byte).toNat]?).join ≠ some 0 := by
  decide +kernel

theorem witness_ReceiverReadsEveryFrame :
    (∀ b ∈ ([0x00, 0xA4, 0xFF] : List Byte), b ≠ 0xA5) ∧ (List.replicate 120 (0xA5 : Byte)).length ≤ 120 ∧ 120 < (121 : Byte).toNat
      ∧ State.reset.phase = .running ∧ { State.reset with uplinkRx := .reading [0x40, 2] }.phase = .running := by
  decide

/-! For the laws that steps keep: a state that meets the law, with a command at the front of its queue that moves what the law
speaks of. -/

/-- The part before a muster with the MUSTER line about to be asserted. -/
def stepping : State := { beforeMuster with pending := [.musterLineAsserted] }

theorem witness_StepKeepsModesAgreed :
    ModesAgree { ready with pending := [.startService], receiveList := [⟨0x11, 7, []⟩] }
      ∧ ∃ t, step { ready with pending := [.startService], receiveList := [⟨0x11, 7, []⟩] } = .next t :=
  ⟨by decide +kernel, _, rfl⟩

theorem witness_StepKeepsRoomForReplies :
    RoomForReplies { searching37 with pending := [.filterSearchComplete] }
      ∧ WaitersHaveCause { searching37 with pending := [.filterSearchComplete] }
      ∧ ∃ t, step { searching37 with pending := [.filterSearchComplete] } = .next t :=
  ⟨by decide +kernel, by decide +kernel, _, rfl⟩

theorem witness_StepKeepsNumbersAndRanges :
    NumbersRun { twoRecords with pending := [.clockSecond] } ∧ CountsLoaded { twoRecords with pending := [.clockSecond] }
      ∧ ValuesInRange { twoRecords with pending := [.clockSecond] } ∧ ∃ t, step { twoRecords with pending := [.clockSecond] } = .next t :=
  ⟨by decide +kernel, by decide +kernel, by decide +kernel, _, rfl⟩

theorem witness_StepKeepsReservations : Accounted stepping ∧ ∃ t, step stepping = .next t := ⟨by decide +kernel, _, rfl⟩

theorem witness_StepKeepsPlaces :
    Accounted stepping ∧ WaitersHaveCause stepping ∧ ValuesInRange stepping ∧ PlacesKept stepping ∧ ∃ t, step stepping = .next t :=
  ⟨by decide +kernel, by decide +kernel, by decide +kernel, ⟨by decide +kernel, by decide +kernel, by decide +kernel⟩, _, rfl⟩

theorem witness_StepKeepsSlotUses : Accounted stepping ∧ UsesKept stepping ∧ ∃ t, step stepping = .next t :=
  ⟨by decide +kernel, ⟨by decide +kernel, by decide +kernel, by decide +kernel⟩, _, rfl⟩

theorem witness_ActiveBankAndCeilingsStand :
    stepping.activeBank = some .bankA ∧ stepping.ceilings = some #v[200, 150, 90, 40] ∧ ∃ t, step stepping = .next t :=
  ⟨rfl, rfl, _, rfl⟩

end Sys2Proof.Tests
end

section
/-! Fields of the byte layouts (R183): the two writings of byte order agree, and a field written is read back from wherever
it stands. -/
namespace Sys2Proof.Machine
open Sys2Proof.Claims

/-! ### Numbers and the bytes that spell them -/

/-- Reading on from an accumulated number shifts it past the bytes read. -/
theorem foldl_bytes_eq (bs : List Byte) (acc : Nat) :
    bs.foldl (fun acc b => acc * 256 + b.toNat) acc = acc * 256 ^ bs.length + number bs := by
  induction bs generalizing acc with
  | nil => simp [number]
  | cons b bs ih =>
    rw [List.foldl_cons, ih, number, List.length_cons, pow_succ']
    ring

theorem natOfBytes_eq_number (bs : List Byte) : natOfBytes bs = number bs := by
  simp [natOfBytes, foldl_bytes_eq]

theorem fieldNat_eq_field (p : List Byte) (off size : Nat) : fieldNat p off size = field p off size :=
  natOfBytes_eq_number _

theorem num_succ_eq_append (n v : Nat) : num (n + 1) v = num n (v / 256) ++ [BitVec.ofNat 8 v] := by
  induction n with
  | zero => simp [num]
  | succ n ih => rw [num, ih, num, List.cons_append, Nat.div_div_eq_div_mul, pow_succ']

theorem beBytes_eq_num (n v : Nat) : beBytes n v = num n v := by
  induction n generalizing v with
  | zero => rfl
  | succ n ih => rw [beBytes_succ, ih, num_succ_eq_append]

theorem num_length (n v : Nat) : (num n v).length = n := by rw [← beBytes_eq_num, beBytes_length]

theorem number_num (n v : Nat) : number (num n v) = v % 256 ^ n := by
  induction n with
  | zero => simp [num, number, Nat.mod_one]
  | succ n ih =>
    rw [num, number, ih, num_length, BitVec.toNat_ofNat, Nat.mod_pow_succ (b := 256),
      mul_comm, add_comm]

/-! ### A field among the bytes around it -/

/-- A field behind some bytes is read as if those bytes were not there. -/
theorem fieldNat_append_of_le {xs : List Byte} {off : Nat} (h : xs.length ≤ off) (ys : List Byte) (size : Nat) :
    fieldNat (xs ++ ys) off size = fieldNat ys (off - xs.length) size := by
  simp [fieldNat, List.drop_append, List.drop_eq_nil_of_le h]

theorem fieldNat_cons_succ (b : Byte) (bs : List Byte) (off size : Nat) :
    fieldNat (b :: bs) (off + 1) size = fieldNat bs off size := rfl

theorem fieldNat_cons_zero (b : Byte) (bs : List Byte) : fieldNat (b :: bs) 0 1 = b.toNat := by
  simp [fieldNat, natOfBytes]

/-- A number of `n` bytes is read back from in front of any bytes. -/
theorem fieldNat_beBytes_append (n v : Nat) (ys : List Byte) : fieldNat (beBytes n v ++ ys) 0 n = v % 256 ^ n := by
  rw [fieldNat, List.drop_zero, List.take_left' (beBytes_length n v), natOfBytes_eq_number, beBytes_eq_num, number_num]

/-- A word written in all its bytes is read back from in front of any bytes. -/
theorem ofNat_fieldNat_beBytes_append {w n : Nat} (h : w = 8 * n) (x : BitVec w) (ys : List Byte) :
    BitVec.ofNat w (fieldNat (beBytes n x.toNat ++ ys) 0 n) = x := by
  have hx : x.toNat < 256 ^ n := x.isLt.trans_eq (h ▸ pow_mul 2 8 n)
  rw [fieldNat_beBytes_append, Nat.mod_eq_of_lt hx, BitVec.ofNat_toNat, BitVec.setWidth_eq]

/-- A word written in all its bytes is read back when nothing follows it. -/
theorem ofNat_fieldNat_beBytes {w n : Nat} (h : w = 8 * n) (x : BitVec w) :
    BitVec.ofNat w (fieldNat (beBytes n x.toNat) 0 n) = x := by
  simpa using ofNat_fieldNat_beBytes_append h x []

/-! ### The TAP and PASSAGE payloads (R184) -/

/-- The model reads a TAP payload as the table of R184 does, whatever its bytes hold. -/
theorem parseTap_eq_tapOf (p : List Byte) : parseTap p = tapOf p := by
  have hflag (n : Nat) (h : n < 8) : (fieldByte p 15).getLsbD n = present p n := by
    rw [fieldByte, BitVec.getLsbD_ofNat, decide_eq_true h, Bool.true_and, fieldNat_eq_field, present]
  simp only [parseTap, tapOf, hflag 0 (by decide), hflag 1 (by decide)]
  simp only [fieldByte, field16, field24, field32, field48, fieldNat_eq_field]

theorem tapPayload_length (t : TapFrame) : (tapPayload t).length = 26 := by simp [tapPayload]

/-- The two named bits of a presence byte are the two flags written. -/
theorem flagByte_pair_bits (a b : Bool) : (flagByte [a, b])[0] = a ∧ (flagByte [a, b])[1] = b := by
  cases a <;> cases b <;> decide

/-- Every TAP is read back from the payload that spells it. -/
theorem parseTap_tapPayload (t : TapFrame) : parseTap (tapPayload t) = t := by
  obtain ⟨tap, media, issuer, product, concession, balance, last, expiry⟩ := t
  cases last <;> cases expiry <;>
    simp [-beBytes_succ, parseTap, tapPayload, fieldByte, field16, field24, field32, field48, fieldNat_append_of_le,
      fieldNat_cons_zero, fieldNat_cons_succ, ofNat_fieldNat_beBytes_append, ofNat_fieldNat_beBytes, flagByte_pair_bits]

/-- The two fields of a PASSAGE payload are read back from the payload that spells them. -/
theorem passagePayload_fields (tap : TapNumber) (code : Byte) :
    field16 (num 2 tap.toNat ++ [code]) 0 = tap ∧ fieldByte (num 2 tap.toNat ++ [code]) 2 = code := by
  rw [← beBytes_eq_num]
  constructor
  · exact ofNat_fieldNat_beBytes_append (w := 16) (n := 2) rfl tap [code]
  · simp [-beBytes_succ, fieldByte, fieldNat_append_of_le, fieldNat_cons_zero]

end Sys2Proof.Machine
end

section
/-! The receiver (R181): what it makes of a whole envelope, and of a length above 120. -/
namespace Sys2Proof.Machine
open Sys2Proof.Claims

theorem Receiver.run_cons (r : Receiver) (b : Byte) (bs : List Byte) :
    r.run (b :: bs) = (((r.step b).1.run bs).1, (r.step b).2.toList ++ ((r.step b).1.run bs).2) := rfl

/-- The frame with the check word of R181 is the envelope with the check word the receiver compares. -/
theorem checked_eq_envelope (cls : Byte) (payload : List Byte) :
    checked cls payload = envelope cls payload (checkWord (checkedBytes cls payload)) := rfl

/-- Bytes that come in two arrivals are taken as in one. -/
theorem Receiver.run_append (r : Receiver) (xs ys : List Byte) :
    r.run (xs ++ ys) = (((r.run xs).1.run ys).1, (r.run xs).2 ++ ((r.run xs).1.run ys).2) := by
  induction xs generalizing r with
  | nil => rfl
  | cons x xs ih => simp only [List.cons_append, Receiver.run_cons, ih, List.append_assoc]

/-- Behind class and length a receiver keeps each byte that does not complete payload and check word. -/
theorem Receiver.step_reading_body {cls len : Byte} (hlen : len.toNat ≤ 120) {body : List Byte}
    (h : body.length + 1 < len.toNat + 2) (b : Byte) :
    Receiver.step (.reading (cls :: len :: body)) b = (.reading (cls :: len :: (body ++ [b])), none) := by
  have hmax : ¬ Config.maxPayload < len.toNat := Nat.not_lt.mpr hlen
  simp [Receiver.step, fieldNat_cons_succ, fieldNat_cons_zero, hmax]
  omega

/-- The byte that completes payload and check word ends the frame. -/
theorem Receiver.step_reading_last {cls len : Byte} (hlen : len.toNat ≤ 120) {body : List Byte}
    (h : body.length + 1 = len.toNat + 2) (b : Byte) :
    Receiver.step (.reading (cls :: len :: body)) b =
      (.hunting, some (.frame cls ((body ++ [b]).take len.toNat) (field16 (body ++ [b]) len.toNat))) := by
  have hmax : ¬ Config.maxPayload < len.toNat := Nat.not_lt.mpr hlen
  simp [Receiver.step, field16, fieldByte, fieldNat_cons_succ, fieldNat_cons_zero, hmax]
  omega

/-- Bytes that do not complete payload and check word end no frame. -/
theorem Receiver.run_reading_body {cls len : Byte} (hlen : len.toNat ≤ 120) (bs body : List Byte)
    (h : body.length + bs.length < len.toNat + 2) :
    Receiver.run (.reading (cls :: len :: body)) bs = (.reading (cls :: len :: (body ++ bs)), []) := by
  induction bs generalizing body with
  | nil => simp [Receiver.run]
  | cons b bs ih =>
    rw [List.length_cons] at h
    rw [Receiver.run_cons, Receiver.step_reading_body hlen (by omega), ih (body ++ [b]) (by simp; omega)]
    simp

/-- A hunting receiver takes the start mark, class and a length within bounds, and reads on behind them. -/
theorem Receiver.run_start (cls len : Byte) (hlen : len.toNat ≤ 120) :
    Receiver.hunting.run [0xA5, cls, len] = (.reading [cls, len], []) := by
  have hmax : ¬ Config.maxPayload < len.toNat := Nat.not_lt.mpr hlen
  simp [Receiver.run, Receiver.step, startMark, fieldNat_cons_succ, fieldNat_cons_zero, hmax]

/-- A length above 120 ends the frame at once. -/
theorem Receiver.run_overlong (cls len : Byte) (hlen : 120 < len.toNat) :
    Receiver.hunting.run [0xA5, cls, len] = (.hunting, [.overlong]) := by
  have hmax : Config.maxPayload < len.toNat := hlen
  simp [Receiver.run, Receiver.step, startMark, fieldNat_cons_succ, fieldNat_cons_zero, hmax]

/-- A hunting receiver reads any envelope whole. -/
theorem Receiver.run_envelope (cls : Byte) (payload : List Byte) (check : BitVec 16) (hlen : payload.length ≤ 120) :
    Receiver.hunting.run (envelope cls payload check) = (.hunting, [.frame cls payload check]) := by
  have hn : (BitVec.ofNat 8 payload.length).toNat = payload.length := by simp; omega
  have hcheck : field16 (payload ++ num 2 check.toNat) payload.length = check := by
    rw [field16, fieldNat_append_of_le le_rfl, Nat.sub_self, ← beBytes_eq_num]
    exact ofNat_fieldNat_beBytes (w := 16) (n := 2) rfl check
  obtain ⟨hi, lo, hnum⟩ : ∃ hi lo : Byte, num 2 check.toNat = [hi] ++ [lo] := ⟨_, _, rfl⟩
  rw [hnum, ← List.append_assoc] at hcheck
  rw [envelope, hnum, List.append_assoc, Receiver.run_append, Receiver.run_start _ _ (hn.trans_le hlen),
    ← List.append_assoc, Receiver.run_append, Receiver.run_reading_body (hn.trans_le hlen) _ _ (by simp [hn]),
    Receiver.run_cons, Receiver.step_reading_last (hn.trans_le hlen) (by simp [hn]), hn, List.nil_append, hcheck]
  simp [Receiver.run]

end Sys2Proof.Machine
end

section
/-! Gate lanes (R24, R181, R182): which frames are bad, and what one whole frame on a lane does. -/
namespace Sys2Proof.Machine
open Sys2Proof.Claims

/-! ### The frame checks -/

/-- What makes a frame bad: its check word, the fixed length of its class, or its class. -/
theorem laneFrame_bad_iff (cls : Byte) (payload : List Byte) (check : BitVec 16) :
    laneFrame (.frame cls payload check) = .bad ↔
      check ≠ checkWord (checkedBytes cls payload) ∨ (cls = 0x10 ∧ payload.length ≠ 26)
        ∨ (cls = 0x11 ∧ payload.length ≠ 3) ∨ (cls ≠ 0x10 ∧ cls ≠ 0x11) := by
  by_cases hcheck : check = checkWord (checkedBytes cls payload)
  · subst hcheck
    by_cases htap : cls = 0x10
    · subst htap
      simp [laneFrame, classTap]
    · by_cases hpassage : cls = 0x11
      · subst hpassage
        simp [laneFrame, classTap, classPassage]
      · exact iff_of_true (by simp only [laneFrame, classTap, classPassage, htap, hpassage, ite_self, if_false])
          (.inr (.inr (.inr ⟨htap, hpassage⟩)))
  · simp [laneFrame, hcheck]

theorem laneFrame_tap {payload : List Byte} (h : payload.length = 26) :
    laneFrame (.frame 0x10 payload (checkWord (checkedBytes 0x10 payload))) = .tap (parseTap payload) := by
  simp [laneFrame, classTap, h]

theorem laneFrame_passage {payload : List Byte} (h : payload.length = 3) :
    laneFrame (.frame 0x11 payload (checkWord (checkedBytes 0x11 payload))) =
      .passage (field16 payload 0) (passageResult (fieldByte payload 2)) := by
  simp [laneFrame, classTap, classPassage, h]

/-! ### Bytes arriving on a lane -/

theorem exec_tap_running {s : State} (h : s.phase = .running) (g : Gate) (bytes : List Byte) :
    exec (.tap g bytes) s = .next (s.laneBytes g bytes) := if_pos h

theorem exec_passage_running {s : State} (h : s.phase = .running) (g : Gate) (bytes : List Byte) :
    exec (.passage g bytes) s = .next (s.laneBytes g bytes) := if_pos h

/-- Bytes that are one whole frame have that frame handled, and leave the receiver hunting. -/
theorem State.laneBytes_of_run {s : State} {g : Gate} {bytes : List Byte} {ev : RxEvent} (hrx : s.laneRx[g] = .hunting)
    (hrun : Receiver.hunting.run bytes = (.hunting, [ev])) : s.laneBytes g bytes = State.laneEvent g s ev := by
  have hset : s.laneRx.set g .hunting = s.laneRx := by rw [← hrx, vector_set_self]
  simp only [State.laneBytes, hrx, hrun, hset, List.foldl_cons, List.foldl_nil]

/-- An envelope on a hunting lane is handled as the frame it holds. -/
theorem State.laneBytes_envelope {s : State} {g : Gate} (hrx : s.laneRx[g] = .hunting) (cls : Byte) {payload : List Byte}
    (hlen : payload.length ≤ 120) (check : BitVec 16) :
    s.laneBytes g (envelope cls payload check) = State.laneEvent g s (.frame cls payload check) :=
  State.laneBytes_of_run hrx (Receiver.run_envelope cls payload check hlen)

theorem State.laneEvent_bad {g : Gate} {s : State} {ev : RxEvent} (h : laneFrame ev = .bad) :
    State.laneEvent g s ev = s.badFrame g := by
  simp only [State.laneEvent, h]

/-- A frame that fails the checks of R24 changes the count of bad frames alone. -/
theorem State.laneBytes_bad {s : State} {g : Gate} (hrx : s.laneRx[g] = .hunting) {cls : Byte} {payload : List Byte}
    {check : BitVec 16} (hlen : payload.length ≤ 120) (hbad : laneFrame (.frame cls payload check) = .bad) :
    s.laneBytes g (envelope cls payload check) = s.badFrame g := by
  rw [State.laneBytes_envelope hrx cls hlen, State.laneEvent_bad hbad]

/-- A frame whose length byte is above 120 changes the count of bad frames alone. -/
theorem State.laneBytes_overlong {s : State} {g : Gate} (hrx : s.laneRx[g] = .hunting) (cls : Byte) {len : Byte}
    (hlen : 120 < len.toNat) : s.laneBytes g [0xA5, cls, len] = s.badFrame g := by
  rw [State.laneBytes_of_run hrx (Receiver.run_overlong cls len hlen), State.laneEvent_bad rfl]

/-- A checked TAP of 26 bytes goes on to R11 with its fields as R183 and R184 read them. -/
theorem State.laneBytes_tap {s : State} {g : Gate} (hrx : s.laneRx[g] = .hunting) {payload : List Byte}
    (hlen : payload.length = 26) : s.laneBytes g (checked 0x10 payload) = s.tapArrives g (tapOf payload) := by
  rw [checked_eq_envelope, State.laneBytes_envelope hrx 0x10 (by omega), State.laneEvent]
  simp only [laneFrame_tap hlen, parseTap_eq_tapOf]

/-- A checked PASSAGE goes on to R18 with its tap number and result. -/
theorem State.laneBytes_passage {s : State} {g : Gate} (hrx : s.laneRx[g] = .hunting) (tap : TapNumber) (code : Byte) :
    s.laneBytes g (checked 0x11 (num 2 tap.toNat ++ [code])) = s.passageArrives g tap (passageResult code) := by
  have hlen : (num 2 tap.toNat ++ [code]).length = 3 := by simp [num_length]
  obtain ⟨htap, hcode⟩ := passagePayload_fields tap code
  rw [checked_eq_envelope, State.laneBytes_envelope hrx 0x11 (by omega), State.laneEvent]
  simp only [laneFrame_passage hlen, htap, hcode]

/-- Settles O33: each frame is one envelope to a hunting receiver, so the frame checks alone decide what is done with it. -/
theorem badLaneFramesAreCounted : Obligations.BadLaneFramesAreCounted := by
  intro s g hphase hrx counted
  refine ⟨fun cls payload check hlen hbad => ?_, fun cls len hlen => ?_, fun payload hlen => ?_, fun t => ?_,
    fun tap code => ?_⟩
  · have hcount : s.laneBytes g (envelope cls payload check) = counted :=
      State.laneBytes_bad hrx hlen ((laneFrame_bad_iff cls payload check).mpr hbad)
    exact ⟨by rw [exec_tap_running hphase, hcount], by rw [exec_passage_running hphase, hcount]⟩
  · have hcount : s.laneBytes g [0xA5, cls, len] = counted := State.laneBytes_overlong hrx cls hlen
    exact ⟨by rw [exec_tap_running hphase, hcount], by rw [exec_passage_running hphase, hcount]⟩
  · rw [exec_tap_running hphase, State.laneBytes_tap hrx hlen]
  · rw [exec_tap_running hphase, State.laneBytes_tap hrx (tapPayload_length t), ← parseTap_eq_tapOf, parseTap_tapPayload]
  · rw [exec_passage_running hphase, State.laneBytes_passage hrx]

end Sys2Proof.Machine
end

section
/-! The media filter (R46 to R48): what each of an entry's tests passes, and when an entry matches. -/
namespace Sys2Proof.Machine
open Sys2Proof.Claims

/-- Two words agree under a mask exactly when they hold the same bit wherever the mask holds a one. -/
theorem and_mask_eq_iff {w : Nat} (x y mask : BitVec w) :
    x &&& mask = y &&& mask ↔ ∀ i : Fin w, mask.getLsbD i.val = true → x.getLsbD i.val = y.getLsbD i.val := by
  constructor
  · intro heq i hone
    have hbit : (x &&& mask).getLsbD i.val = (y &&& mask).getLsbD i.val := by rw [heq]
    simpa only [BitVec.getLsbD_and, hone, Bool.and_true] using hbit
  · intro hagree
    refine BitVec.eq_of_getLsbD_eq fun i hi => ?_
    rw [BitVec.getLsbD_and, BitVec.getLsbD_and]
    cases hmask : mask.getLsbD i with
    | false => rw [Bool.and_false, Bool.and_false]
    | true => rw [hagree ⟨i, hi⟩ hmask]

/-- The number test by the entry's kind (R46). -/
theorem FilterRule.numberPasses_iff (r : FilterRule) (m : Media) :
    r.numberPasses m = true ↔ NumberPasses r.kind r.first r.second m := by
  obtain ⟨action, kind, first, second, issuer⟩ := r
  cases kind with
  | range => exact decide_eq_true_iff
  | pair => exact decide_eq_true_iff
  | masked => exact decide_eq_true_iff.trans (and_mask_eq_iff m first second)

/-- The issuer test (R47): ANY, or the card's own issuer. -/
theorem FilterRule.issuerPasses_iff (r : FilterRule) (issuer : Byte) :
    r.issuerPasses issuer = true ↔ r.issuer = none ∨ r.issuer = some issuer := by
  cases hissuer : r.issuer with
  | none => simp [FilterRule.issuerPasses, hissuer]
  | some i => simp [FilterRule.issuerPasses, hissuer, eq_comm]

/-- An enabled entry matches a card exactly when both its tests pass (R48). -/
theorem FilterRule.matchesCard_iff (r : FilterRule) (m : Media) (issuer : Byte) :
    r.matchesCard m issuer = true ↔ EntryMatches (some r) m issuer := by
  rw [FilterRule.matchesCard, Bool.and_eq_true, FilterRule.numberPasses_iff, FilterRule.issuerPasses_iff]
  simp [EntryMatches]

/-- A disabled entry matches no card (R45). -/
theorem not_entryMatches_none (m : Media) (issuer : Byte) : ¬ EntryMatches none m issuer :=
  fun ⟨_, hnone, _⟩ => nomatch hnone

/-- Settles O47: a disabled entry matches nothing, and an enabled one is decided by its two tests. -/
theorem filterEntryMatchesByTable : Obligations.FilterEntryMatchesByTable := by
  intro entry m issuer
  cases entry with
  | none => exact iff_of_false Bool.false_ne_true (not_entryMatches_none m issuer)
  | some r => exact r.matchesCard_iff m issuer

end Sys2Proof.Machine
end

section
/-! The adjusted fare (R89): what the scaling by 1/256 rounds to, and how far it can go. -/
namespace Sys2Proof.Machine

/-- R89's rounding in 512ths of a fare unit, where the half added before the division is the whole number 256. -/
theorem adjustedFare_half_up (b f : Nat) :
    512 * adjustedFare b f ≤ 2 * (b * f) + 256 ∧ 2 * (b * f) + 256 < 512 * adjustedFare b f + 512 := by
  have hquotient : 256 * adjustedFare b f ≤ b * f + 128 := Nat.mul_div_le _ _
  have hremainder : b * f + 128 < 256 * (adjustedFare b f + 1) := Nat.lt_mul_div_succ _ (by decide)
  constructor <;> omega

/-- The reason why the fare at the largest base fare and factor bounds every other. -/
theorem adjustedFare_mono {b b' f f' : Nat} (hb : b ≤ b') (hf : f ≤ f') :
    adjustedFare b f ≤ adjustedFare b' f' :=
  Nat.div_le_div_right (Nat.add_le_add_right (Nat.mul_le_mul hb hf) 128)

/-- The half added before the division never makes a fare out of nothing. -/
theorem adjustedFare_of_mul_eq_zero {b f : Nat} (hproduct : b * f = 0) : adjustedFare b f = 0 := by
  rw [adjustedFare, hproduct]

/-- The factor 256 is one whole: it leaves the base fare as it is. -/
theorem adjustedFare_factor_one (b : Nat) : adjustedFare b 256 = b := by
  obtain ⟨hlower, hupper⟩ := adjustedFare_half_up b 256
  omega

/-- Settles O49: the bounds are the fare at the largest base fare and curve factor, which no smaller one exceeds. -/
theorem adjustedFareRoundsHalfUp : Obligations.AdjustedFareRoundsHalfUp := by
  refine ⟨fun b f => ⟨rfl, adjustedFare_half_up b f⟩, fun b f hb hf => ⟨?_, ?_⟩, fun b f hzero => ?_,
    adjustedFare_factor_one⟩
  · calc b * f + 128 ≤ 9999 * 511 + 128 := Nat.add_le_add_right (Nat.mul_le_mul hb hf) 128
      _ = 5109617 := rfl
  · calc adjustedFare b f ≤ adjustedFare 9999 511 := adjustedFare_mono hb hf
      _ = 19959 := rfl
  · exact adjustedFare_of_mul_eq_zero (Nat.mul_eq_zero.mpr hzero)

end Sys2Proof.Machine
end

section
/-! Reading an entry (R127): which bytes name a bank and an entry of one (R120, R183), and what READ_ENTRY answers. -/
namespace Sys2Proof.Machine
open Sys2Proof.Claims

/-! ### The bank and the entry that bytes name -/

theorem indexBelow_eq_some_iff {n : Nat} (b : Byte) (i : Fin n) : indexBelow n b = some i ↔ i.val = b.toNat := by
  unfold indexBelow
  split
  case isTrue => simp [Fin.ext_iff, eq_comm]
  case isFalse hbeyond => exact iff_of_false nofun fun heq => hbeyond (heq ▸ i.isLt)

@[simp] theorem bankOf_bankCode (n : BankName) : bankOf (bankCode n) = some n := by
  cases n <;> rfl

/-- Codes above 1 name no bank (R183). -/
theorem bankOf_eq_none {b : Byte} (h : 1 < b.toNat) : bankOf b = none := by
  have hA : b ≠ 0 := by rintro rfl; exact absurd h (by decide)
  have hB : b ≠ 1 := by rintro rfl; exact absurd h (by decide)
  rw [bankOf, if_neg hA, if_neg hB]

/-- Two bytes are read as an entry exactly when they are its table code and its index (R120, R183). -/
theorem tableIndexOf_eq_some_iff (table index : Byte) (i : TableIndex) :
    tableIndexOf table index = some i ↔ tableCode i = (table, index.toNat) := by
  unfold tableIndexOf
  split_ifs with hproduct hband hcurve hconcession
  case pos | pos | pos | pos => subst table; cases i <;> simp [tableCode, indexBelow_eq_some_iff]
  case neg =>
    refine iff_of_false nofun fun hcode => ?_
    have htable : (tableCode i).1 = table := congrArg Prod.fst hcode
    cases i with
    | product => exact hproduct htable.symm
    | band => exact hband htable.symm
    | curve => exact hcurve htable.symm
    | concession => exact hconcession htable.symm

theorem tableIndexOf_eq_none {table index : Byte} (h : noSuchEntry table index) : tableIndexOf table index = none :=
  Option.eq_none_iff_forall_ne_some.mpr fun i hsome => h i ((tableIndexOf_eq_some_iff table index i).mp hsome)

theorem Bank.entry_eq_entryAt (b : Bank) (i : TableIndex) : b.entry i = entryAt b i := by
  cases i <;> rfl

/-! ### READ_ENTRY -/

theorem readEntry_of_unknown (tag : Byte) {a : ReadEntryArgs} (s : State)
    (h : 1 < a.bank.toNat ∨ noSuchEntry a.table a.index) :
    readEntry tag a s = s.reply .readEntry tag .badIndex .nothing := by
  rcases h with hbank | hentry
  · simp only [readEntry, bankOf_eq_none hbank]
  · cases hbank : bankOf a.bank <;> simp only [readEntry, hbank, tableIndexOf_eq_none hentry]

theorem readEntry_of_named (tag : Byte) {a : ReadEntryArgs} (s : State) {n : BankName} {i : TableIndex}
    (hbank : a.bank = bankCode n) (hentry : tableCode i = (a.table, a.index.toNat)) :
    readEntry tag a s = s.reply .readEntry tag .ok (.entry (entryAt (s.bank n) i)) := by
  simp only [readEntry, hbank, bankOf_bankCode, (tableIndexOf_eq_some_iff a.table a.index i).mpr hentry,
    Bank.entry_eq_entryAt]

/-- A READ_ENTRY that is offered is taken and handed to its block. -/
theorem exec_readEntry_of_offers {s : State} {tag : Byte} {rest : List MgmtFrame} {a : ReadEntryArgs}
    (h : s.offers .readEntry tag a.bytes rest) :
    exec .readEntry s = .next (readEntry tag a { s with receiveList := rest }) :=
  takeFrame_of_offers h (parseReadEntry_bytes a)

/-- Settles O21: the frame is taken as it is read, and its bytes name either no entry or the one whose contents go out. -/
theorem readEntryReturnsEntry : Obligations.ReadEntryReturnsEntry := by
  intro s tag rest a hoffers
  rw [exec_readEntry_of_offers hoffers]
  refine ⟨fun hunknown => ?_, fun n i hbank hentry => ?_⟩
  · rw [readEntry_of_unknown tag _ hunknown]
    rfl
  · rw [readEntry_of_named tag _ hbank hentry]
    rfl

end Sys2Proof.Machine
end

section
/-! Collecting the records (R139 to R142): what FETCH_RECORDS and ACK_RECORDS answer. -/
namespace Sys2Proof.Machine
open Sys2Proof.Claims

/-! ### FETCH_RECORDS -/

theorem fetchRecords_of_badCount (tag : Byte) {n : Byte} (s : State) (h : n.toNat = 0 ∨ 16 < n.toNat) :
    fetchRecords tag n s = s.reply .fetchRecords tag .badValue .nothing :=
  if_pos h

/-- The run that joins the outgoing list holds as many records as its REPLY says: the number asked for, or all held (R139). -/
theorem fetchRecords_of_goodCount (tag : Byte) {n : Byte} (s : State) (h : ¬ (n.toNat = 0 ∨ 16 < n.toNat)) :
    fetchRecords tag n s = s.produce ((s.written.take n.toNat).map .record
      ++ [.reply Command.fetchRecords.code tag .ok (.sent (min n.toNat s.written.length))]) := by
  simp only [fetchRecords, if_neg h, List.length_take]

/-- A FETCH_RECORDS that is offered is taken and handed to its block. -/
theorem exec_fetchRecords_of_offers {s : State} {tag : Byte} {rest : List MgmtFrame} {n : Byte}
    (h : s.offers .fetchRecords tag [n] rest) :
    exec .fetchRecords s = .next (fetchRecords tag n { s with receiveList := rest }) :=
  takeFrame_of_offers h (parseOneByte_singleton n)

/-- Settles O26: a count out of range is answered at once, and any other sends its records and REPLY as one run. -/
theorem fetchRecordsSendsOldest : Obligations.FetchRecordsSendsOldest := by
  intro s tag rest n hoffers
  rw [exec_fetchRecords_of_offers hoffers]
  split
  case isTrue hbad =>
    rw [fetchRecords_of_badCount tag _ hbad]
    rfl
  case isFalse hgood =>
    rw [fetchRecords_of_goodCount tag _ hgood, List.append_assoc]
    rfl

/-! ### ACK_RECORDS -/

/-- The record named is found by its number at the first place that bears it. -/
theorem findIdx?_seq_of_first {n : SeqNumber} {front left : List Record} {r : Record} (hnamed : r.seq = n)
    (hfront : ∀ q ∈ front, q.seq ≠ n) :
    (front ++ r :: left).findIdx? (fun r => decide (r.seq = n)) = some front.length := by
  have hnone : front.findIdx? (fun r => decide (r.seq = n)) = none := by
    simpa [List.findIdx?_eq_none_iff] using hfront
  simp [List.findIdx?_append, hnone, List.findIdx?_cons, hnamed]

theorem ackRecords_of_unheld (tag : Byte) {n : SeqNumber} (s : State) (h : ∀ r ∈ s.written, r.seq ≠ n) :
    ackRecords tag n s = s.reply .ackRecords tag .badSeq (.oldest s.oldestSeq) := by
  have hnone : s.written.findIdx? (fun r => decide (r.seq = n)) = none := by
    simpa [List.findIdx?_eq_none_iff] using h
  simp only [ackRecords, hnone]

/-- The records up to the one named go, and the fall of the total may arm the queue high alert (R140, R142). -/
theorem ackRecords_of_held (tag : Byte) {n : SeqNumber} (s : State) {front left : List Record} {r : Record}
    (hwritten : s.written = front ++ r :: left) (hnamed : r.seq = n) (hfront : ∀ q ∈ front, q.seq ≠ n) :
    ackRecords tag n s =
      (State.queueFell { s with written := left }).reply .ackRecords tag .ok (.acked (front.length + 1) left.length) := by
  have hleft : s.written.drop (front.length + 1) = left := by simp [hwritten]
  simp only [ackRecords, hwritten ▸ findIdx?_seq_of_first hnamed hfront, hleft]

/-- An ACK_RECORDS that is offered is taken and handed to its block. -/
theorem exec_ackRecords_of_offers {s : State} {tag : Byte} {rest : List MgmtFrame} {n : SeqNumber}
    (h : s.offers .ackRecords tag (beBytes 2 n.toNat) rest) :
    exec .ackRecords s = .next (ackRecords tag n { s with receiveList := rest }) :=
  takeFrame_of_offers h (parseAckRecords_bytes n)

/-- Settles O27: the number is borne by no held record, or by a first one whose place the search finds. -/
theorem ackRecordsRemovesUpToNumber : Obligations.AckRecordsRemovesUpToNumber := by
  intro s tag rest n hoffers
  rw [exec_ackRecords_of_offers hoffers]
  refine ⟨fun hunheld => ?_, fun front left r hwritten hnamed hfront => ?_⟩
  · rw [ackRecords_of_unheld tag { s with receiveList := rest } hunheld]
    rfl
  · rw [ackRecords_of_held tag { s with receiveList := rest } hwritten hnamed hfront, State.queueFell_eq]
    rfl

end Sys2Proof.Machine
end

section
/-! Steps (R169, R170): what a law must survive to be kept by every command that is taken, and by every step. -/
namespace Sys2Proof.Machine
open Sys2Proof.Claims

/-! ### Vectors with one entry replaced -/

theorem getElem_set_fin {α : Type} {n : Nat} (v : Vector α n) (i j : Fin n) (x : α) :
    (v.set i x)[j] = if i = j then x else v[j] := by
  simp [Vector.getElem_set, Fin.ext_iff]

@[simp] theorem getElem_set_fin_self {α : Type} {n : Nat} (v : Vector α n) (i : Fin n) (x : α) : (v.set i x)[i] = x := by
  rw [getElem_set_fin, if_pos rfl]

theorem getElem_set_fin_ne {α : Type} {n : Nat} (v : Vector α n) {i j : Fin n} (h : i ≠ j) (x : α) : (v.set i x)[j] = v[j] := by
  rw [getElem_set_fin, if_neg h]

theorem getElem_map_fin {α β : Type} {n : Nat} (v : Vector α n) (i : Fin n) (f : α → β) : (v.map f)[i] = f v[i] := by
  simp

theorem getElem_ofFn_fin {α : Type} {n : Nat} (i : Fin n) (f : Fin n → α) : (Vector.ofFn f)[i] = f i := by
  simp

/-- Vectors with the same entry at every index are the same. -/
theorem vector_ext_fin {α : Type} {n : Nat} {v w : Vector α n} (h : ∀ i : Fin n, v[i] = w[i]) : v = w := by
  ext i hi
  exact h ⟨i, hi⟩

/-! ### Steps and management commands -/

/-- A law kept by every command, whatever waits in the queue, is kept by every step. -/
theorem step_keeps {P : State → Prop} (hqueue : ∀ (s : State) rest, P s → P { s with pending := rest })
    (hidle : ∀ s : State, P s → P s.idle) (hexec : ∀ (c : Instr) (s t : State), P s → exec c s = .next t → P t)
    {s t : State} (hs : P s) (h : step s = .next t) : P t := by
  unfold step at h
  split at h
  · cases h
    exact hidle s hs
  · exact hexec _ _ t (hqueue s _ hs) h

/-- A law that a frame leaving the receive list, a REPLY and the command's own block keep is kept by the command. -/
theorem takeFrame_keeps {P : State → Prop} {α : Type} {c : Command} {parse : List Byte → Option α}
    {handle : Byte → α → State → State} {s t : State} (h : takeFrame c parse handle s = .next t) (hs : P s)
    (hreply : ∀ rest out, P { s with receiveList := rest, outgoing := out })
    (hhandle : ∀ tag a rest, P (handle tag a { s with receiveList := rest })) : P t := by
  obtain rfl | ⟨f, rest, -, -, -, -, ⟨-, rfl⟩ | ⟨a, -, rfl⟩⟩ := takeFrame_cases h
  · exact hs
  · exact hreply rest _
  · exact hhandle f.tag a rest

/-- A law kept by each item of a list is kept by all of them one after another. -/
theorem foldl_keeps {σ ι : Type} {P : σ → Prop} {f : σ → ι → σ} (hf : ∀ s i, P s → P (f s i)) (l : List ι) {s : σ} (hs : P s) :
    P (l.foldl f s) := by
  induction l generalizing s with
  | nil => exact hs
  | cons i l ih => exact ih (hf s i hs)

end Sys2Proof.Machine
end

section
/-! Gate modes (R4 to R6): what working the modes out again makes of the part. -/
namespace Sys2Proof.Machine
open Sys2Proof.Claims

theorem computedMode_eq_modeFor (sv : ServiceState) (st : GateState) : computedMode sv st = modeFor sv st := by
  cases sv <;> cases st <;> rfl

/-- A gate that changes from DRAINING to DISABLED keeps its computed mode (R6). -/
theorem computedMode_draining (sv : ServiceState) : computedMode sv .draining = computedMode sv .disabled := by
  cases sv <;> rfl

/-- Two states that differ in gates and lanes alone are the same when these are. -/
theorem State.with_gates_lanes_congr (s : State) {c c' : Vector GateContext 16} {l l' : Vector (List GateFrame) 16}
    (hc : c = c') (hl : l = l') :
    ({ s with gates := c, laneOut := l } : State) = { s with gates := c', laneOut := l' } := by rw [hc, hl]

/-- A gate context whose mode has been worked out again. -/
def GateContext.resent (sv : ServiceState) (c : GateContext) : GateContext :=
  { c with modeSent := some (modeFor sv c.state) }

/-- The frame that goes out when a gate's mode is worked out again, if one does. -/
def GateContext.modeFrames (sv : ServiceState) (c : GateContext) : List GateFrame :=
  if c.modeSent = some (modeFor sv c.state) then [] else [.gateMode (modeFor sv c.state)]

theorem State.refreshMode_eq_resent (s : State) (g : Gate) :
    s.refreshMode g = { s with
      gates := s.gates.set g (s.gates[g].resent s.service)
      laneOut := s.laneOut.set g (s.laneOut[g] ++ s.gates[g].modeFrames s.service) } := by
  rw [State.refreshMode_eq, computedMode_eq_modeFor]
  rfl

/-- The modes of the gates listed are worked out again, each gate for itself. -/
theorem foldl_refreshMode (l : List Gate) (hl : l.Nodup) (s : State) :
    l.foldl State.refreshMode s = { s with
      gates := Vector.ofFn fun g => if g ∈ l then s.gates[g].resent s.service else s.gates[g]
      laneOut := Vector.ofFn fun g => if g ∈ l then s.laneOut[g] ++ s.gates[g].modeFrames s.service else s.laneOut[g] } := by
  induction l generalizing s with
  | nil => exact State.with_gates_lanes_congr s (vector_ext_fin fun g => by simp) (vector_ext_fin fun g => by simp)
  | cons a l ih =>
    obtain ⟨ha, hl⟩ := List.nodup_cons.mp hl
    rw [List.foldl_cons, ih hl, State.refreshMode_eq_resent]
    refine State.with_gates_lanes_congr s (vector_ext_fin fun g => ?_) (vector_ext_fin fun g => ?_)
    all_goals
      rw [getElem_ofFn_fin, getElem_ofFn_fin]
      by_cases h : a = g
      · subst h
        simp [ha]
      · have hother : g ∈ a :: l ↔ g ∈ l := by simp [Ne.symm h]
        simp only [getElem_set_fin_ne _ h, hother]

/-- All modes worked out again: each gate's mode last sent is its computed mode, and a frame goes out where it differed. -/
theorem State.refreshModes_eq (s : State) : s.refreshModes = modesSent s := by
  rw [State.refreshModes, foldl_refreshMode _ (List.nodup_finRange 16)]
  exact State.with_gates_lanes_congr s (vector_ext_fin fun g => by simp [GateContext.resent])
    (vector_ext_fin fun g => by simp [GateContext.modeFrames])

end Sys2Proof.Machine
end

section
/-! What each management command's block can do with its arguments: a bare REPLY, or the one change named. -/
namespace Sys2Proof.Machine
open Sys2Proof.Claims

theorem setTime_cases (tag : Byte) (a : SetTimeArgs) (s : State) :
    (∃ r d, setTime tag a s = s.reply .setTime tag r d) ∨
      a.second.toNat < 86400 ∧ ∃ slots, (slots = s.slots ∨ slots = s.slots.map fun o => o.map PassSlot.rollover) ∧
        setTime tag a s =
          State.reply { s with clock := some ⟨a.day.toNat, a.second.toNat⟩, tenths := 0, slots := slots } .setTime tag .ok
            .nothing := by
  unfold setTime
  split
  · exact .inl ⟨_, _, rfl⟩
  · rename_i hsecond
    refine .inr ⟨Nat.lt_of_not_le hsecond, ?_⟩
    dsimp only
    split
    · split
      · exact ⟨_, .inr rfl, rfl⟩
      · exact ⟨_, .inl rfl, rfl⟩
    · exact ⟨_, .inl rfl, rfl⟩

theorem ceilingOk_iff (c : BitVec 16) : ceilingOk c = true ↔ 1 ≤ c.toNat ∧ c.toNat ≤ 999 := decide_eq_true_iff

theorem setLimits_cases (tag : Byte) (a : SetLimitsArgs) (s : State) :
    (∃ r d, setLimits tag a s = s.reply .setLimits tag r d) ∨
      s.service = .config ∧ s.ceilings = none ∧ (∀ b : BerthNo, 1 ≤ a.ceilings[b] ∧ a.ceilings[b] ≤ 999) ∧
        setLimits tag a s = State.reply { s with ceilings := some a.ceilings } .setLimits tag .ok .nothing := by
  unfold setLimits
  split_ifs with hservice hset hrange
  · exact .inl ⟨_, _, rfl⟩
  · exact .inl ⟨_, _, rfl⟩
  · simp only [Bool.and_eq_true, ceilingOk_iff] at hrange
    obtain ⟨⟨⟨h0, h1⟩, h2⟩, h3⟩ := hrange
    refine .inr ⟨Decidable.not_not.mp hservice, by simpa using hset, fun b => ?_, rfl⟩
    match b with
    | 0 => exact h0
    | 1 => exact h1
    | 2 => exact h2
    | 3 => exact h3
  · exact .inl ⟨_, _, rfl⟩

theorem Params.clamped_inRange (p : Params) : p.clamped.inRange := by
  simp only [Params.inRange, Params.clamped, clampTo]
  omega

theorem setParameters_cases (tag : Byte) (a : SetParametersArgs) (s : State) :
    (∃ r d, setParameters tag a s = s.reply .setParameters tag r d) ∨
      ∃ p q r d, p.inRange ∧ setParameters tag a s =
        State.reply { s with params := p, queueHighArmed := q } .setParameters tag r d := by
  unfold setParameters
  split
  · exact .inl ⟨_, _, rfl⟩
  · split
    · exact .inl ⟨_, _, rfl⟩
    · exact .inr ⟨_, _, _, _, Params.clamped_inRange _, rfl⟩

theorem setAlertMask_cases (tag : Byte) (a : SetAlertMaskArgs) (s : State) :
    ∃ m r d, setAlertMask tag a s = State.reply { s with masks := m } .setAlertMask tag r d := by
  unfold setAlertMask
  split
  · exact ⟨s.masks, _, _, rfl⟩
  · exact ⟨_, _, _, rfl⟩

/-- GATE_CONFIG answers, or disables an ACTIVE gate, or gives a DISABLED one new settings (R3). -/
theorem gateConfig_cases (tag : Byte) (a : GateConfigArgs) (s : State) :
    (∃ r d, gateConfig tag a s = s.reply .gateConfig tag r d) ∨
      ∃ (g : Gate) (c : GateContext),
        (s.gates[g].state = .active ∧ c = s.gates[g].disable ∨
          s.gates[g].state = .disabled ∧ ∃ v, c = s.gates[g].configure v) ∧
        gateConfig tag a s = ((s.setGate g c).refreshMode g).reply .gateConfig tag .ok .nothing := by
  unfold gateConfig
  split
  · exact .inl ⟨_, _, rfl⟩
  · rename_i g _
    split
    · exact .inl ⟨_, _, rfl⟩
    · rename_i v _
      split
      · rename_i hactive
        split
        · exact .inl ⟨_, _, rfl⟩
        · exact .inr ⟨g, _, .inl ⟨hactive, rfl⟩, rfl⟩
      · exact .inl ⟨_, _, rfl⟩
      · rename_i hdisabled
        exact .inr ⟨g, _, .inr ⟨hdisabled, v, rfl⟩, rfl⟩

theorem loadFilter_cases (tag : Byte) (a : LoadFilterArgs) (s : State) :
    (∃ r d, loadFilter tag a s = s.reply .loadFilter tag r d) ∨
      ∃ w : FilterWrite, s.searching = true ∧ loadFilter tag a s = { s with waitingWrites := s.waitingWrites ++ [w] }
        ∨ loadFilter tag a s = s.applyWrite w := by
  unfold loadFilter
  split
  · exact .inl ⟨_, _, rfl⟩
  · split
    · exact .inl ⟨_, _, rfl⟩
    · split
      · rename_i hsearching
        exact .inr ⟨_, .inl ⟨hsearching, rfl⟩⟩
      · exact .inr ⟨_, .inr rfl⟩

theorem loadFare_cases (tag : Byte) (a : LoadFareArgs) (s : State) :
    (∃ r d, loadFare tag a s = s.reply .loadFare tag r d) ∨
      ∃ n i e, s.bankHeld n = false ∧ entryOf i a.contents = some e ∧
        loadFare tag a s =
          (s.setBank n ((s.bank n).load i e)).reply .loadFare tag .ok (.count ((s.bank n).load i e).count) := by
  unfold loadFare
  split
  · split
    · exact .inl ⟨_, _, rfl⟩
    · rename_i hentry
      split
      · exact .inl ⟨_, _, rfl⟩
      · rename_i hheld
        exact .inr ⟨_, _, _, by simpa using hheld, hentry, rfl⟩
  · exact .inl ⟨_, _, rfl⟩

theorem clearBank_cases (tag : Byte) (a : Byte) (s : State) :
    (∃ r d, clearBank tag a s = s.reply .clearBank tag r d) ∨
      ∃ n, s.bankHeld n = false ∧ clearBank tag a s = (s.setBank n Bank.empty).reply .clearBank tag .ok (.count 0) := by
  unfold clearBank
  split
  · exact .inl ⟨_, _, rfl⟩
  · split
    · exact .inl ⟨_, _, rfl⟩
    · rename_i hheld
      exact .inr ⟨_, by simpa using hheld, rfl⟩

theorem activateBank_cases (tag : Byte) (a : ActivateBankArgs) (s : State) :
    (∃ r d, activateBank tag a s = s.reply .activateBank tag r d) ∨
      ∃ n, s.waitingActivation = none ∧
        (s.engine.isSome = true ∧ activateBank tag a s = { s with waitingActivation := some ⟨n, tag⟩ }
          ∨ activateBank tag a s = State.reply { s with activeBank := some n } .activateBank tag .ok (.bank n)) := by
  unfold activateBank
  split
  · exact .inl ⟨_, _, rfl⟩
  · split_ifs with hwaiting hcount hactive hbusy
    · exact .inl ⟨_, _, rfl⟩
    · exact .inl ⟨_, _, rfl⟩
    · exact .inl ⟨_, _, rfl⟩
    · exact .inr ⟨_, by simpa using hwaiting, .inl ⟨hbusy, rfl⟩⟩
    · exact .inr ⟨_, by simpa using hwaiting, .inr rfl⟩

theorem readEntry_cases (tag : Byte) (a : ReadEntryArgs) (s : State) :
    ∃ r d, readEntry tag a s = s.reply .readEntry tag r d := by
  unfold readEntry
  split <;> exact ⟨_, _, rfl⟩

theorem loadSlot_cases (tag : Byte) (a : LoadSlotArgs) (s : State) :
    (∃ r d, loadSlot tag a s = s.reply .loadSlot tag r d) ∨
      ∃ k : SlotNo, s.slotBusy k = false ∧ 1 ≤ a.limit.toNat ∧ a.limit.toNat ≤ 15 ∧
        loadSlot tag a s = (s.setSlot k (some ⟨a.media, a.limit.toNat, 0, false, none⟩)).reply .loadSlot tag .ok .nothing := by
  unfold loadSlot
  split
  · exact .inl ⟨_, _, rfl⟩
  · split_ifs with hmedia hlimit hbusy
    · exact .inl ⟨_, _, rfl⟩
    · exact .inl ⟨_, _, rfl⟩
    · exact .inl ⟨_, _, rfl⟩
    · exact .inr ⟨_, by simpa using hbusy, by omega, by omega, rfl⟩

theorem clearSlot_cases (tag : Byte) (a : Byte) (s : State) :
    (∃ r d, clearSlot tag a s = s.reply .clearSlot tag r d) ∨
      ∃ k : SlotNo, s.slotBusy k = false ∧ clearSlot tag a s = (s.setSlot k none).reply .clearSlot tag .ok .nothing := by
  unfold clearSlot
  split
  · exact .inl ⟨_, _, rfl⟩
  · split
    · exact .inl ⟨_, _, rfl⟩
    · rename_i hbusy
      exact .inr ⟨_, by simpa using hbusy, rfl⟩

/-- OPEN_SAILING answers, or opens a sailing on a CLOSED berth in service with a slot to reserve (R65). -/
theorem openSailing_cases (tag : Byte) (a : OpenSailingArgs) (s : State) :
    (∃ r d, openSailing tag a s = s.reply .openSailing tag r d) ∨
      ∃ (b : BerthNo) (line : LineCode) (r : ReplyResult) (d : ReplyData),
        s.service = .inService ∧ s.sailings[b] = none ∧ 1 ≤ a.capacity.toNat ∧ s.canReserve = true ∧
        openSailing tag a s =
          (s.reserveSlot.setSailing b
            (some (openedSailing a.sailing line (clampCapacity s.ceilings b a.capacity.toNat) s.now))).reply .openSailing tag
            r d := by
  unfold openSailing
  split
  · exact .inl ⟨_, _, rfl⟩
  · split
    · exact .inl ⟨_, _, rfl⟩
    · rename_i hservice
      split
      · exact .inl ⟨_, _, rfl⟩
      · rename_i hopen
        split
        · exact .inl ⟨_, _, rfl⟩
        · split_ifs with hcapacity hroom
          · exact .inl ⟨_, _, rfl⟩
          · exact .inl ⟨_, _, rfl⟩
          · exact .inr ⟨_, _, _, _, Decidable.not_not.mp hservice, by simpa using hopen, by omega, by simpa using hroom,
              rfl⟩

/-- DEPART answers, or closes a sailing that holds no place or is SUSPENDED, or makes a BOARDING one CLOSING (R72). -/
theorem depart_cases (tag : Byte) (a : Byte) (s : State) :
    (∃ r d, depart tag a s = s.reply .depart tag r d) ∨
      ∃ (b : BerthNo) (sl : Sailing) (r : ReplyResult) (d : ReplyData), s.sailings[b] = some sl ∧
        ((sl.state = .suspended ∨ sl.state = .boarding ∧ sl.held = 0) ∧
            depart tag a s = (s.closeSailing b).reply .depart tag r d
          ∨ (sl.state = .boarding ∧ 0 < sl.held) ∧
            depart tag a s =
              ((s.setSailing b (some { sl with state := .closing })).noteChange b .left).reply .depart tag r d) := by
  unfold depart
  split
  · exact .inl ⟨_, _, rfl⟩
  · split
    · exact .inl ⟨_, _, rfl⟩
    · rename_i sl hsl
      split
      · exact .inl ⟨_, _, rfl⟩
      · rename_i hstate
        exact .inr ⟨_, sl, _, _, hsl, .inl ⟨.inl hstate, rfl⟩⟩
      · rename_i hstate
        split
        · rename_i hheld
          exact .inr ⟨_, sl, _, _, hsl, .inl ⟨.inr ⟨hstate, hheld⟩, rfl⟩⟩
        · rename_i hheld
          exact .inr ⟨_, sl, _, _, hsl, .inr ⟨⟨hstate, Nat.pos_of_ne_zero hheld⟩, rfl⟩⟩

theorem startService_cases (tag : Byte) (s : State) :
    (∃ r d, startService tag s = s.reply .startService tag r d) ∨
      s.service = .config ∧ s.clock.isSome = true ∧ s.ceilings.isSome = true ∧ s.activeBank.isSome = true ∧
        (startService tag s = s.musterEntry.reply .startService tag .ok (.service .muster)
          ∨ startService tag s =
            (State.refreshModes { s with service := .inService }).reply .startService tag .ok (.service .inService)) := by
  unfold startService
  split_ifs with hservice hclock hceilings hactive hmuster
  · exact .inl ⟨_, _, rfl⟩
  · exact .inl ⟨_, _, rfl⟩
  · exact .inl ⟨_, _, rfl⟩
  · exact .inl ⟨_, _, rfl⟩
  all_goals
    refine .inr ⟨Decidable.not_not.mp hservice, Option.isSome_iff_ne_none.mpr hclock, Option.isSome_iff_ne_none.mpr hceilings,
      Option.isSome_iff_ne_none.mpr hactive, ?_⟩
  · exact .inl rfl
  · exact .inr rfl

theorem stopService_cases (tag : Byte) (s : State) :
    (∃ r d, stopService tag s = s.reply .stopService tag r d) ∨
      s.openBerths = 0 ∧ s.holdingGates = 0 ∧
        stopService tag s = (State.refreshModes { s with service := .config }).reply .stopService tag .ok .nothing := by
  unfold stopService
  split_ifs with hservice hopen
  · exact .inl ⟨_, _, rfl⟩
  · exact .inl ⟨_, _, rfl⟩
  · simp only [not_or, Decidable.not_not] at hopen
    exact .inr ⟨hopen.1, hopen.2, rfl⟩

theorem fetchRecords_cases (tag : Byte) (n : Byte) (s : State) :
    ∃ fs, fs.length ≤ 17 ∧ fetchRecords tag n s = s.produce fs := by
  unfold fetchRecords
  split
  · exact ⟨_, by simp, rfl⟩
  · refine ⟨_, ?_, rfl⟩
    simp only [List.length_append, List.length_map, List.length_take, List.length_singleton]
    omega

theorem ackRecords_cases (tag : Byte) (n : SeqNumber) (s : State) :
    (∃ r d, ackRecords tag n s = s.reply .ackRecords tag r d) ∨
      ∃ i q r d, ackRecords tag n s =
        State.reply { s with written := s.written.drop i, queueHighArmed := q } .ackRecords tag r d := by
  unfold ackRecords
  split
  · exact .inl ⟨_, _, rfl⟩
  · dsimp only
    rw [State.queueFell_eq]
    exact .inr ⟨_, _, _, _, rfl⟩

theorem statusCommand_cases (tag : Byte) (a : Option Byte) (s : State) :
    ∃ fs, fs.length ≤ 3 ∧
      (statusCommand tag a s = s.produce fs ∨ ∃ g, statusCommand tag a s = (s.produce fs).clearCounts g) := by
  unfold statusCommand
  split
  · exact ⟨_, by simp [State.statusRun], .inl rfl⟩
  · split
    · exact ⟨_, by simp, .inl rfl⟩
    · exact ⟨_, by simp [State.statusRun], .inr ⟨_, rfl⟩⟩

end Sys2Proof.Machine
end

section
/-! The queue, the resets and the clock (R163 to R166). -/
namespace Sys2Proof.Machine
open Sys2Proof.Claims

/-- Settles O1: with a command waiting the step is that command, and with none one tenth passes. -/
theorem stepTakesFrontCommand : Obligations.StepTakesFrontCommand := by
  refine ⟨fun c rest s hqueue => ?_, fun s hqueue => ?_⟩
  · simp only [step, hqueue]
  · have hbase : max s.timeBase (s.timeBase + 1) = s.timeBase + 1 := by omega
    have htenth : s.timeBase + 1 - s.timeBase = 1 := by omega
    simp only [step, hqueue, State.idle, State.timeReaches, hbase, htenth]

/-! ### Resets -/

theorem State.beginReset_eq (s : State) (p : Phase) : s.beginReset p = dropped s p := rfl

/-- A gate without kept settings comes out of a reset with the settings of R2. -/
theorem GateContext.afterReset_unkept (c : GateContext) : c.afterReset false = GateContext.reset := rfl

theorem map_afterReset_unkept (v : Vector GateContext 16) :
    v.map (GateContext.afterReset false) = Vector.replicate 16 GateContext.reset :=
  vector_ext_fin fun g => by simp [GateContext.afterReset_unkept]

/-- Out of a POWER reset with the RESET line released the part is State.reset, beside what no rule gives a value (log 5). -/
theorem State.comeOut_power {s : State} (hline : s.resetLine = false) : s.comeOut .power = outOfPower s := by
  simp [State.comeOut, State.resetCommon, State.dropWork, State.resetTables, outOfPower, State.reset, map_afterReset_unkept,
    hline]

/-- Out of a LINE reset the same, with the records and their numbering kept. -/
theorem State.comeOut_line {s : State} (hline : s.resetLine = false) :
    s.comeOut .line = { outOfPower s with
      written := s.written
      nextSeq := s.nextSeq
      queueHighArmed := decide (s.written.length < 224)
      resetCause := .line } := by
  simp [State.comeOut, State.resetCommon, State.dropWork, State.resetTables, State.rearmAfterReset, outOfPower, State.reset,
    map_afterReset_unkept, hline, Params.default]

/-- Settles O3: each clause fixes phase and line, and with them the arm the command takes. -/
theorem powerAndLineResetGiveResetValues : Obligations.PowerAndLineResetGiveResetValues := by
  intro s
  refine ⟨fun b hphase hline => ?_, fun b hphase hline => ?_, fun hphase hline => ?_, fun hphase hline => ?_,
    fun hphase hline => ?_⟩
  · simp only [exec, execPowerUpComplete, hphase, hline, Bool.false_eq_true, if_false, State.comeOut_power hline]
  · simp only [exec, execPowerUpComplete, hphase, hline, if_true]
  · simp only [exec, execResetLineReleased, hphase, hline, if_true]
    rw [State.comeOut_power rfl]
    rfl
  · simp only [exec, execResetLineReleased, hphase, hline, if_true]
  · simp only [exec, execResetLineReleased, hphase, hline, if_true]
    rw [State.comeOut_line rfl]
    rfl

/-- What a COMMAND reset leaves, its time base apart: the settings of each gate, the tables, the records and the clock. -/
theorem State.comeOut_command (s : State) :
    s.comeOut .command = { s.dropWork with
      phase := .running
      resetCause := .command
      service := .config
      gates := s.gates.map fun c => ⟨c.config, if c.config.enabled then .active else .disabled, [], some .closed, 0, 0⟩
      laneRx := Vector.replicate 16 .hunting
      laneOut := Vector.replicate 16 [.gateMode .closed]
      uplinkRx := .hunting
      lastGranted := 15
      queueHighArmed := decide (s.written.length < s.params.highMark) } := rfl

/-- Settles O4: the reset comes out a tenth after it began, and what it sets is what every reset sets. -/
theorem commandResetKeepsTables : Obligations.CommandResetKeepsTables := by
  intro s t hphase
  simp only [exec, execCommandResetEnd, hphase, State.comeOut_command]
  rfl

theorem State.drained_iff (s : State) : s.drained = true ↔ s.outgoing = [] ∧ ∀ g : Gate, s.laneOut[g] = [] := by
  simp only [State.drained, Bool.and_eq_true, List.isEmpty_iff, List.all_eq_true, Vector.mem_toList_iff]
  refine and_congr_right fun _ => ⟨fun h g => h _ (Vector.getElem_mem g.isLt), fun h l hl => ?_⟩
  obtain ⟨i, hi, rfl⟩ := Vector.getElem_of_mem hl
  exact h ⟨i, hi⟩

/-- Settles O5: the RESET is taken as any command, and each beginning is the one list of what is dropped. -/
theorem resetsBeginAndDropWork : Obligations.ResetsBeginAndDropWork := by
  intro s
  refine ⟨fun tag rest hoffers => ?_, fun hphase hout hlanes => ?_, fun hphase hwaits => ?_, rfl, fun hline => ?_⟩
  · rw [show exec .reset s = execReset s from rfl, execReset, takeFrame_of_offers hoffers parseNothing_nil]
    rfl
  · rw [show exec .commandResetBegin s = execCommandResetBegin s from rfl, execCommandResetBegin,
      if_pos ⟨hphase, s.drained_iff.mpr ⟨hout, hlanes⟩⟩, State.beginReset_eq]
  · have hwaiting : ¬ (s.phase = .resetTaken ∧ s.drained = true) := by
      rw [State.drained_iff]
      rintro ⟨-, hout, hlanes⟩
      obtain hout' | ⟨g, hlane⟩ := hwaits
      · exact hout' hout
      · exact hlane (hlanes g)
    rw [show exec .commandResetBegin s = execCommandResetBegin s from rfl, execCommandResetBegin, if_neg hwaiting]
  · simp only [exec, execResetLineAsserted, hline, Bool.false_eq_true, if_false]
    rfl

/-! ### A part that takes no event (R165, R166) -/

/-- Outside `running` a command by which the part takes an event leaves the state as it is. -/
theorem exec_takesEvent_not_running {s : State} (h : s.phase ≠ .running) (c : Instr) (hc : takesEvent c = true) :
    exec c s = .next s := by
  have hstage (st : Stage) : s.atStage st = none := State.atStage_not_running h
  cases c
  case tap | passage | mgmtFrameArrival => exact if_neg h
  case tapWaitExpiry => simp only [exec, execTapWaitExpiry, if_neg h]; split <;> rfl
  case passageWindowExpiry => simp only [exec, execPassageWindowExpiry, if_neg h]; split <;> rfl
  case grant => simp only [exec, execGrant, State.grantsOpen, decide_eq_false h, Bool.false_and]; split <;> rfl
  case sailingStage => simp only [exec, execSailingStage, hstage]
  case cardDataStage => simp only [exec, execCardDataStage, hstage]
  case filterSearch => simp only [exec, execFilterSearch, hstage]
  case filterSearchComplete => simp only [exec, execFilterSearchComplete, hstage]
  case productStage => simp only [exec, execProductStage, hstage]
  case capacityStage => simp only [exec, execCapacityStage, hstage]
  case productKindStage => simp only [exec, execProductKindStage, hstage]
  case fareStage => simp only [exec, execFareStage, hstage]
  case verdict => simp only [exec, execVerdict, hstage]
  case unknownCommand => simp only [exec, execUnknownCommand, State.canTake, decide_eq_false h, Bool.false_and]; split <;> rfl
  case setTime | setLimits | setParameters | setAlertMask | gateConfig | loadFilter | loadFare | clearBank | activateBank
      | readEntry | loadSlot | clearSlot | openSailing | depart | fetchRecords | ackRecords | status =>
    exact takeFrame_not_running h
  case musterStart => simp only [exec, execMusterStart, takeFrame_not_running h]
  case musterEnd => simp only [exec, execMusterEnd, takeFrame_not_running h]
  case startService => simp only [exec, execStartService, takeFrame_not_running h]
  case stopService => simp only [exec, execStopService, takeFrame_not_running h]
  case reset => simp only [exec, execReset, takeFrame_not_running h]
  all_goals exact absurd hc Bool.false_ne_true

/-- Settles O6: every command that takes an event asks for `running` first, and in reset proper no frame leaves either. -/
theorem partInResetTakesNothing : Obligations.PartInResetTakesNothing := by
  intro s hphase
  refine ⟨exec_takesEvent_not_running hphase, ?_, ?_, fun htaken => ?_⟩
  · simp only [exec, execMusterLineAsserted]
    split
    case isTrue hline => rw [← hline]
    case isFalse => simp [hphase]
  · simp only [exec, execMusterLineReleased]
    split
    case isTrue => simp [hphase]
    case isFalse hline => rw [← Bool.eq_false_of_not_eq_true hline]
  · have hsends : s.sends = false := by
      unfold State.sends
      split
      · exact absurd ‹_› hphase
      · exact absurd ‹_› htaken
      · rfl
    refine ⟨?_, fun g => ?_⟩
    · simp only [exec, execUplinkFrameSent, hsends, Bool.false_eq_true, if_false]
      split <;> rfl
    · simp only [exec, execLaneFrameSent, hsends, Bool.false_eq_true, if_false]
      split <;> rfl

/-! ### The clock (R163, R164) -/

theorem State.rollover_eq (s : State) : s.rollover = { s with slots := rolledOver s.slots } := rfl

/-- Ten tenths counted, those still missing among them. -/
theorem State.tenTenths_eq (s : State) :
    s.tenTenths = { s with timeBase := s.timeBase + (10 - s.tenths), tenths := s.tenths - 10 } := by
  have hbase : max s.timeBase (s.timeBase + (10 - s.tenths)) = s.timeBase + (10 - s.tenths) := by omega
  have htenths : s.tenths + (s.timeBase + (10 - s.tenths) - s.timeBase) - 10 = s.tenths - 10 := by omega
  simp only [State.tenTenths, State.timeReaches, hbase, htenths]

theorem ServiceTime.next_within_day {d n : Nat} (h : n < 86399) : (⟨d, n⟩ : ServiceTime).next = ⟨d, n + 1⟩ := by
  have hday : n + 1 < Config.daySeconds := Nat.succ_lt_succ h
  simp only [ServiceTime.next, hday, if_true]

theorem ServiceTime.next_of_last_second (d : Nat) : (⟨d, 86399⟩ : ServiceTime).next = ⟨(d + 1) % 65536, 0⟩ := by
  simp [ServiceTime.next, Config.daySeconds, Config.dayCount]

theorem State.secondPasses_same_day {s : State} {t : ServiceTime} (hclock : s.clock = some t) (hday : t.next.day = t.day) :
    s.secondPasses = { s with clock := some t.next } := by
  simp only [State.secondPasses, hclock, hday, ne_eq, not_true, if_false]

theorem State.secondPasses_next_day {s : State} {t : ServiceTime} (hclock : s.clock = some t) (hday : t.next.day ≠ t.day) :
    s.secondPasses = { s with clock := some t.next, slots := rolledOver s.slots } := by
  simp only [State.secondPasses, hclock, hday, ne_eq, not_false_eq_true, if_true, State.rollover_eq]

/-- Settles O7: the second of the clock decides between a second within the day and the day's end. -/
theorem clockSecondAdvancesClock : Obligations.ClockSecondAdvancesClock := by
  intro s s1
  have hexec : exec .clockSecond s = .next s1.secondPasses := by
    rw [show exec .clockSecond s = .next s.tenTenths.secondPasses from rfl, State.tenTenths_eq]
  rw [hexec]
  refine ⟨fun hclock => ?_, fun d n hclock hn => ?_, fun d hd hclock => ?_, fun hclock => ?_⟩
  · have hunset : s1.clock = none := hclock
    simp only [State.secondPasses, hunset]
  · have hnext := ServiceTime.next_within_day (d := d) hn
    have hclock1 : s1.clock = some ⟨d, n⟩ := hclock
    rw [State.secondPasses_same_day hclock1 (by rw [hnext]), hnext]
  · have hnext : (⟨d, 86399⟩ : ServiceTime).next = ⟨d + 1, 0⟩ := by
      rw [ServiceTime.next_of_last_second, Nat.mod_eq_of_lt (by omega)]
    have hclock1 : s1.clock = some ⟨d, 86399⟩ := hclock
    rw [State.secondPasses_next_day hclock1 (by rw [hnext]; exact Nat.succ_ne_self d), hnext]
  · have hnext : (⟨65535, 86399⟩ : ServiceTime).next = ⟨0, 0⟩ := ServiceTime.next_of_last_second 65535
    have hclock1 : s1.clock = some ⟨65535, 86399⟩ := hclock
    rw [State.secondPasses_next_day hclock1 (by rw [hnext]; decide), hnext]

/-- Settles O8: the second's range decides the answer, and the day before decides whether the slots roll over. -/
theorem setTimeSetsClock : Obligations.SetTimeSetsClock := by
  intro s tag rest a hoffers
  rw [show exec .setTime s = execSetTime s from rfl, execSetTime, takeFrame_of_offers hoffers (parseSetTime_bytes a), setTime]
  congr 1
  refine if_congr Iff.rfl rfl ?_
  cases hclock : s.clock with
  | none => rfl
  | some t => by_cases hday : t.day < a.day.toNat <;> simp only [hday, if_true, if_false] <;> rfl

end Sys2Proof.Machine
end

section
/-! Service Control (R61, R158 to R162, R168) and muster outside its entry (R147, R148, R155). -/
namespace Sys2Proof.Machine
open Sys2Proof.Claims

/-! ### Ceilings, parameters and masks -/

theorem ceilingOk_eq_false_iff (c : BitVec 16) : ceilingOk c = false ↔ c.toNat = 0 ∨ 999 < c.toNat := by
  rw [← Bool.not_eq_true, ceilingOk_iff]
  omega

/-- Settles O9: the rows are asked in order, and the last one fails exactly when one of the four ceilings is out of range. -/
theorem setLimitsByTable : Obligations.SetLimitsByTable := by
  intro s tag rest a hoffers
  rw [show exec .setLimits s = execSetLimits s from rfl, execSetLimits, takeFrame_of_offers hoffers (parseSetLimits_bytes a),
    setLimits]
  congr 1
  refine if_congr Iff.rfl rfl (if_congr Option.isSome_iff_ne_none rfl ?_)
  have hrange : (ceilingOk a.berth0 && ceilingOk a.berth1 && ceilingOk a.berth2 && ceilingOk a.berth3) = true ↔
      ¬ ∃ c ∈ [a.berth0, a.berth1, a.berth2, a.berth3], c.toNat = 0 ∨ 999 < c.toNat := by
    simp only [← ceilingOk_eq_false_iff, Bool.and_eq_true, List.mem_cons, List.not_mem_nil, or_false, exists_eq_or_imp,
      exists_eq_left, not_or, Bool.not_eq_false, and_assoc]
  rw [if_congr hrange rfl rfl, ite_not]
  rfl

theorem defaultActionOf_cases (b : Byte) :
    b ≠ 0 ∧ b ≠ 1 ∧ defaultActionOf b = none
      ∨ (b = 0 ∨ b = 1) ∧ defaultActionOf b = some (if b = 0 then .accept else .refuse) := by
  unfold defaultActionOf
  by_cases h0 : b = 0
  · simp [h0]
  · by_cases h1 : b = 1
    · simp [h1]
    · exact .inl ⟨h0, h1, by rw [if_neg h0, if_neg h1]⟩

/-- Settles O10: service state, then the code of the default action, then the clamps, which the REPLY tells of. -/
theorem setParametersClampsAndApplies : Obligations.SetParametersClampsAndApplies := by
  intro s tag rest a hoffers
  rw [show exec .setParameters s = execSetParameters s from rfl, execSetParameters,
    takeFrame_of_offers hoffers (parseSetParameters_bytes a), setParameters]
  congr 1
  refine if_congr Iff.rfl rfl ?_
  obtain ⟨h0, h1, hcode⟩ | ⟨hcode, hvalue⟩ := defaultActionOf_cases a.defaultAction
  · simp only [hcode, if_pos (And.intro h0 h1)]
    rfl
  · have hknown : ¬ (a.defaultAction ≠ 0 ∧ a.defaultAction ≠ 1) := by
      rintro ⟨h0, h1⟩
      exact hcode.elim h0 h1
    have hlow (n v : Nat) : clampTo 0 n v = min n v := by simp [clampTo]
    simp only [hvalue, if_neg hknown, SetParametersArgs.given, Params.clamped, Params.mk.injEq, hlow, true_and]
    rfl

theorem boolOf_cases (b : Byte) :
    1 < b.toNat ∧ boolOf b = none ∨ b.toNat ≤ 1 ∧ boolOf b = some (decide (b = 1)) := by
  unfold boolOf
  by_cases h0 : b = 0
  · simp [h0]
  · by_cases h1 : b = 1
    · simp [h1]
    · refine .inl ⟨?_, by rw [if_neg h0, if_neg h1]⟩
      have hzero : b.toNat ≠ 0 := fun h => h0 (BitVec.eq_of_toNat_eq h)
      have hone : b.toNat ≠ 1 := fun h => h1 (BitVec.eq_of_toNat_eq h)
      omega

/-- Settles O11: the three codes name flags together or not at all. -/
theorem setAlertMaskSetsThreeFlags : Obligations.SetAlertMaskSetsThreeFlags := by
  intro s tag rest a hoffers
  rw [show exec .setAlertMask s = execSetAlertMask s from rfl, execSetAlertMask,
    takeFrame_of_offers hoffers (parseSetAlertMask_bytes a), setAlertMask, SetAlertMaskArgs.masks]
  obtain ⟨hc, hcapacity⟩ | ⟨hc, hcapacity⟩ := boolOf_cases a.capacityReached
  · simp only [hcapacity, hc, true_or, if_true]
    rfl
  obtain ⟨hq, hqueue⟩ | ⟨hq, hqueue⟩ := boolOf_cases a.queueHigh
  · simp only [hcapacity, hqueue, hq, true_or, or_true, if_true]
    rfl
  obtain ⟨hp, hpriority⟩ | ⟨hp, hpriority⟩ := boolOf_cases a.priorityMatch
  · simp only [hcapacity, hqueue, hpriority, hp, or_true, if_true]
    rfl
  have hnone : ¬ (1 < a.capacityReached.toNat ∨ 1 < a.queueHigh.toNat ∨ 1 < a.priorityMatch.toNat) := by omega
  simp only [hcapacity, hqueue, hpriority, if_neg hnone]
  rfl

/-! ### Muster entry of a part that holds no work, and muster exit -/

theorem foldl_id {σ ι : Type} {f : σ → ι → σ} {s : σ} (l : List ι) (hf : ∀ i ∈ l, f s i = s) : l.foldl f s = s := by
  induction l with
  | nil => rfl
  | cons i l ih => rw [List.foldl_cons, hf i List.mem_cons_self, ih fun j hj => hf j (List.mem_cons_of_mem i hj)]

/-- With no decision, no activation waiting, no transaction and no sailing, muster entry moves the modes alone. -/
theorem State.musterEntry_of_no_work {s : State} (hengine : s.engine = none) (hwaiting : s.waitingActivation = none)
    (hlists : ∀ g : Gate, s.gates[g].list = []) (hsailings : ∀ b : BerthNo, s.sailings[b] = none) :
    s.musterEntry = modesSent { s with service := .muster } := by
  have habandon : s.abandonDecision.applyActivation = s := by
    simp only [State.abandonDecision, hengine, State.applyActivation, hwaiting]
  have hgate (g : Gate) : s.musterGate g = s := by simp only [State.musterGate, hlists g, List.foldl_nil]
  have hberth (b : BerthNo) : s.musterBerth b = s := by simp only [State.musterBerth, hsailings b]
  simp only [State.musterEntry, habandon, foldl_id _ fun g _ => hgate g, foldl_id _ fun b _ => hberth b,
    State.refreshModes_eq]

/-- Muster exit as the statements write it. -/
theorem State.musterExit_eq (s : State) :
    s.musterExit = modesSent { s with
      service := .inService
      sailings := s.sailings.map fun o =>
        o.map fun sl => if sl.state = .suspended then { sl with state := .boarding } else sl } := by
  rw [State.musterExit, State.refreshModes_eq]
  rfl

theorem musterEnd_of_line {tag : Byte} {s : State} (hline : s.musterLine = true) :
    musterEnd tag s = State.reply { s with commandRequest := false } .musterEnd tag .lineHeld .nothing := by
  have hheld : ¬ (s.service = .muster ∧ s.musterLine = false) := fun h => Bool.false_ne_true (h.2.symm.trans hline)
  simp only [musterEnd, if_neg hheld, if_pos hline]

theorem musterEnd_of_last {tag : Byte} {s : State} (hline : s.musterLine = false) (hmuster : s.service = .muster) :
    musterEnd tag s = (State.musterExit { s with commandRequest := false }).reply .musterEnd tag .ok .nothing := by
  have hreleased : ¬ s.musterLine = true := fun h => Bool.false_ne_true (hline.symm.trans h)
  simp only [musterEnd, if_pos (And.intro hmuster hline), if_neg hreleased]

theorem musterEnd_of_not_muster {tag : Byte} {s : State} (hline : s.musterLine = false) (hmuster : s.service ≠ .muster) :
    musterEnd tag s = State.reply { s with commandRequest := false } .musterEnd tag .ok .nothing := by
  have hreleased : ¬ s.musterLine = true := fun h => Bool.false_ne_true (hline.symm.trans h)
  simp only [musterEnd, if_neg fun h : s.service = .muster ∧ s.musterLine = false => hmuster h.1, if_neg hreleased]

/-- Settles O14: each clause fixes what the two requests are, and muster exit comes before the REPLY. -/
theorem musterRequestsOutsideEntry : Obligations.MusterRequestsOutsideEntry := by
  unfold Obligations.MusterRequestsOutsideEntry
  intro left
  have hleft (s : State) : s.musterExit = left s := s.musterExit_eq
  refine ⟨fun s tag rest hoffers => ?_, fun s hphase hline => ?_, fun s hphase hservice => ?_,
    fun s tag rest hservice hoffers => ?_⟩
  · rw [show exec .musterEnd s = execMusterEnd s from rfl, execMusterEnd, takeFrame_of_offers hoffers parseNothing_nil]
    by_cases hline : s.musterLine = true
    · rw [if_pos hline, musterEnd_of_line (s := { s with receiveList := rest }) hline]
      rfl
    · rw [if_neg hline]
      have hreleased := Bool.eq_false_of_not_eq_true hline
      by_cases hmuster : s.service = .muster
      · rw [if_pos hmuster, musterEnd_of_last (s := { s with receiveList := rest }) hreleased hmuster, hleft]
        rfl
      · rw [if_neg hmuster, musterEnd_of_not_muster (s := { s with receiveList := rest }) hreleased hmuster]
        rfl
  · simp only [exec, execMusterLineReleased, if_pos hline, hphase, true_and, hleft]
    by_cases hlast : s.service = .muster ∧ s.commandRequest = false
    · simp only [if_pos hlast]
    · simp only [if_neg hlast]
  · have hstays : ¬ (s.phase = .running ∧ s.service = .inService) := fun h => hservice h.2
    simp only [exec, execMusterLineAsserted, if_neg hstays]
    split
    case isTrue hline => rw [← hline]
    case isFalse => rfl
  · rw [show exec .musterStart s = execMusterStart s from rfl, execMusterStart, takeFrame_of_offers hoffers parseNothing_nil]
    simp only [musterStart, if_neg hservice]
    rfl

/-! ### Starting and stopping service -/

/-- A START_SERVICE that is offered is taken and handed to its block. -/
theorem exec_startService_of_offers {s : State} {tag : Byte} {rest : List MgmtFrame} (h : s.offers .startService tag [] rest) :
    exec .startService s = .next (startService tag { s with receiveList := rest }) := by
  rw [show exec .startService s = execStartService s from rfl, execStartService, takeFrame_of_offers h parseNothing_nil]

/-- With nothing missing, START_SERVICE enters service or, while muster is called for, muster. -/
theorem startService_of_complete (tag : Byte) {s : State} (hservice : s.service = .config) (hclock : s.clock ≠ none)
    (hceilings : s.ceilings ≠ none) (hactive : s.activeBank ≠ none) :
    startService tag s =
      if s.musterCalled then s.musterEntry.reply .startService tag .ok (.service .muster)
      else (modesSent { s with service := .inService }).reply .startService tag .ok (.service .inService) := by
  rw [startService, if_neg (not_not.mpr hservice), if_neg hclock, if_neg hceilings, if_neg hactive, State.refreshModes_eq]

/-- Settles O12: the rows in order; the last two differ by whether muster is called for. -/
theorem startServiceByTable : Obligations.StartServiceByTable := by
  intro s tag rest hoffers
  rw [exec_startService_of_offers hoffers]
  refine ⟨fun hservice => ?_, fun hservice hclock => ?_, fun hservice hclock hceilings => ?_,
    fun hservice hclock hceilings hactive => ?_, fun hservice hclock hceilings hactive hline hrequest => ?_,
    fun hservice hclock hceilings hactive hcalled hengine hwaiting hlists hsailings => ?_⟩
  · rw [startService, if_pos hservice]
    rfl
  · rw [startService, if_neg (not_not.mpr hservice), if_pos hclock]
    rfl
  · rw [startService, if_neg (not_not.mpr hservice), if_neg hclock, if_pos hceilings]
    rfl
  · rw [startService, if_neg (not_not.mpr hservice), if_neg hclock, if_neg hceilings, if_pos hactive]
    rfl
  · have hquiet : ¬ State.musterCalled { s with receiveList := rest } = true := by simp [State.musterCalled, hline, hrequest]
    rw [startService_of_complete tag (s := { s with receiveList := rest }) hservice hclock hceilings hactive, if_neg hquiet]
    rfl
  · have hmuster : State.musterCalled { s with receiveList := rest } = true := by simpa [State.musterCalled] using hcalled
    rw [startService_of_complete tag (s := { s with receiveList := rest }) hservice hclock hceilings hactive, if_pos hmuster,
      State.musterEntry_of_no_work (s := { s with receiveList := rest }) hengine hwaiting hlists hsailings]
    rfl

theorem State.openBerths_eq (s : State) : s.openBerths = s.sailings.toList.countP (·.isSome) :=
  List.countP_eq_length_filter.symm

theorem State.holdingGates_eq (s : State) : s.holdingGates = s.gates.toList.countP fun c => !c.list.isEmpty :=
  List.countP_eq_length_filter.symm

/-- Settles O13: the rows in order, with the two counts that the REPLY carries. -/
theorem stopServiceByTable : Obligations.StopServiceByTable := by
  intro s tag rest hoffers berths gates
  rw [show exec .stopService s = execStopService s from rfl, execStopService, takeFrame_of_offers hoffers parseNothing_nil,
    stopService]
  have hberths : State.openBerths { s with receiveList := rest } = berths := State.openBerths_eq s
  have hgates : State.holdingGates { s with receiveList := rest } = gates := State.holdingGates_eq s
  rw [hberths, hgates, State.refreshModes_eq]
  rfl

end Sys2Proof.Machine
end

section
/-! The table commands: GATE_CONFIG, LOAD_FILTER, CLEAR_BANK, ACTIVATE_BANK, LOAD_SLOT and CLEAR_SLOT
(R3, R52 to R54, R106, R107, R122 to R126). -/
namespace Sys2Proof.Machine
open Sys2Proof.Claims

/-! ### GATE_CONFIG (R3) -/

theorem indexBelow_eq_none {n : Nat} {b : Byte} (h : n ≤ b.toNat) : indexBelow n b = none :=
  dif_neg (Nat.not_lt.mpr h)

theorem indexBelow_of_val {n : Nat} {b : Byte} {i : Fin n} (h : b.toNat = i.val) : indexBelow n b = some i :=
  (indexBelow_eq_some_iff b i).mpr h.symm

theorem byte_eq_zero_or_one {b : Byte} (h : b.toNat ≤ 1) : b = 0 ∨ b = 1 := by
  rcases Nat.le_one_iff_eq_zero_or_eq_one.mp h with hzero | hone
  · exact .inl (BitVec.eq_of_toNat_eq hzero)
  · exact .inr (BitVec.eq_of_toNat_eq hone)

/-- The settings of a GATE_CONFIG are read code by code (R3, R183). -/
theorem gateSettingsOf_eq_some_iff (a : GateConfigArgs) (v : GateSettings) :
    gateSettingsOf a = some v ↔ boolOf a.enabled = some v.enabled ∧ berthOf a.berth = some v.berth
      ∧ indexBelow 4 a.priority = some v.priority ∧ countingOf a.counting = some v.counting
      ∧ laneKindOf a.lane = some v.lane := by
  obtain ⟨enabled, berth, priority, counting, lane⟩ := v
  cases enabled <;> simp [gateSettingsOf, Option.bind_eq_some_iff]

theorem boolOf_eq_none {b : Byte} (h : 1 < b.toNat) : boolOf b = none := by
  obtain ⟨-, hnone⟩ | ⟨hle, -⟩ := boolOf_cases b
  · exact hnone
  · omega

theorem berthOf_eq_none {b : Byte} (h : 3 < b.toNat) (hnone : b ≠ 255) : berthOf b = none := by
  rw [berthOf, if_neg hnone, indexBelow_eq_none h, Option.map_none]

theorem countingOf_eq_none {b : Byte} (h : 1 < b.toNat) : countingOf b = none := by
  have h0 : b ≠ 0 := by rintro rfl; exact absurd h (by decide)
  have h1 : b ≠ 1 := by rintro rfl; exact absurd h (by decide)
  rw [countingOf, if_neg h0, if_neg h1]

theorem laneKindOf_eq_none {b : Byte} (h : 1 < b.toNat) : laneKindOf b = none := by
  have h0 : b ≠ 0 := by rintro rfl; exact absurd h (by decide)
  have h1 : b ≠ 1 := by rintro rfl; exact absurd h (by decide)
  rw [laneKindOf, if_neg h0, if_neg h1]

/-- A code outside its values leaves no settings to take (R3). -/
theorem gateSettingsOf_eq_none {a : GateConfigArgs} (h : 1 < a.enabled.toNat ∨ (3 < a.berth.toNat ∧ a.berth ≠ 255)
    ∨ 3 < a.priority.toNat ∨ 1 < a.counting.toNat ∨ 1 < a.lane.toNat) : gateSettingsOf a = none := by
  refine Option.eq_none_iff_forall_ne_some.mpr fun v hv => ?_
  obtain ⟨henabled, hberth, hpriority, hcounting, hlane⟩ := (gateSettingsOf_eq_some_iff a v).mp hv
  rcases h with h | ⟨h, hnone⟩ | h | h | h
  · exact nomatch (boolOf_eq_none h).symm.trans henabled
  · exact nomatch (berthOf_eq_none h hnone).symm.trans hberth
  · exact nomatch (indexBelow_eq_none (n := 4) h).symm.trans hpriority
  · exact nomatch (countingOf_eq_none h).symm.trans hcounting
  · exact nomatch (laneKindOf_eq_none h).symm.trans hlane

theorem berthOf_of_named {b : Byte} {o : Option BerthNo} (h : o = none ∧ b = 255 ∨ o.map (·.val) = some b.toNat) :
    berthOf b = some o := by
  rcases h with ⟨rfl, rfl⟩ | hval
  · rfl
  · obtain ⟨i, rfl, hi⟩ := Option.map_eq_some_iff.mp hval
    have hnone : b ≠ 255 := by
      rintro rfl
      have hlt := i.isLt
      simp at hi
      omega
    rw [berthOf, if_neg hnone, indexBelow_of_val hi.symm, Option.map_some]

/-- The codes that spell five settings are read as those settings. -/
theorem gateSettingsOf_of_named {a : GateConfigArgs} {v : GateSettings} (henabled : v.enabled = decide (a.enabled = 1))
    (hrange : a.enabled.toNat ≤ 1) (hberth : v.berth = none ∧ a.berth = 255 ∨ v.berth.map (·.val) = some a.berth.toNat)
    (hpriority : a.priority.toNat = v.priority.val) (hcounting : a.counting = if v.counting = .confirmed then 0 else 1)
    (hlane : a.lane = if v.lane = .standard then 0 else 1) : gateSettingsOf a = some v := by
  refine (gateSettingsOf_eq_some_iff a v).mpr ⟨?_, berthOf_of_named hberth, indexBelow_of_val hpriority, ?_, ?_⟩
  · obtain ⟨hbeyond, -⟩ | ⟨-, hflag⟩ := boolOf_cases a.enabled
    · omega
    · rw [hflag, henabled]
  · rw [hcounting]
    cases v.counting <;> rfl
  · rw [hlane]
    cases v.lane <;> rfl

/-- New settings and state with the mode worked out again behind them. -/
theorem State.setGate_refreshMode (s : State) (g : Gate) (v : GateSettings) (st : GateState) :
    (s.setGate g { s.gates[g] with config := v, state := st }).refreshMode g = reconfigured s g v st := by
  rw [State.refreshMode_eq, computedMode_eq_modeFor]
  simp [State.setGate, reconfigured]

/-- A GATE_CONFIG that is offered is taken and handed to its block. -/
theorem exec_gateConfig_of_offers {s : State} {tag : Byte} {rest : List MgmtFrame} {a : GateConfigArgs}
    (h : s.offers .gateConfig tag a.bytes rest) :
    exec .gateConfig s = .next (gateConfig tag a { s with receiveList := rest }) :=
  takeFrame_of_offers h (parseGateConfig_bytes a)

/-- GATE_CONFIG of a gate that is named, with settings that are read: its rows by the state of the gate (R3). -/
theorem gateConfig_of_named (tag : Byte) {a : GateConfigArgs} (s : State) {g : Gate} {v : GateSettings}
    (hgate : a.gate.toNat = g.val) (hsettings : gateSettingsOf a = some v) :
    gateConfig tag a s =
      match s.gates[g].state with
      | .active =>
        if v.enabled then s.reply .gateConfig tag .badState .nothing
        else (reconfigured s g { s.gates[g].config with enabled := false }
          (if s.gates[g].list = [] then .disabled else .draining)).reply .gateConfig tag .ok .nothing
      | .draining => s.reply .gateConfig tag .badState .nothing
      | .disabled =>
        (reconfigured s g v (if v.enabled then .active else .disabled)).reply .gateConfig tag .ok .nothing := by
  simp only [gateConfig, indexBelow_of_val hgate, hsettings, GateContext.disable, GateContext.configure,
    State.setGate_refreshMode] <;> rfl

/-- Settles O16: gate, then values, then the gate's state, each asked only where the one before is in order. -/
theorem gateConfigByTable : Obligations.GateConfigByTable := by
  intro s tag rest a hoffers
  rw [exec_gateConfig_of_offers hoffers]
  refine ⟨fun hbeyond => ?_, fun g hgate => ⟨fun hbad => ?_, fun v henabled hrange hberth hpriority hcounting hlane => ?_⟩⟩
  · simp only [gateConfig, indexBelow_eq_none (n := 16) hbeyond]
    rfl
  · simp only [gateConfig, indexBelow_of_val hgate, gateSettingsOf_eq_none hbad]
    rfl
  · rw [gateConfig_of_named tag _ hgate (gateSettingsOf_of_named henabled hrange hberth hpriority hcounting hlane)]
    cases s.gates[g].state with
    | active => by_cases hv : v.enabled = true <;> simp only [hv, if_true, Bool.false_eq_true, if_false] <;> rfl
    | draining => rfl
    | disabled => rfl

/-! ### LOAD_FILTER (R52 to R54) -/

/-- The kind of an entry as its code names it. -/
theorem filterKindOf_cases (b : Byte) :
    2 < b.toNat ∧ filterKindOf b = none
      ∨ b.toNat ≤ 2 ∧ filterKindOf b = some (if b = 0 then .range else if b = 1 then .pair else .masked) := by
  by_cases h : b.toNat ≤ 2
  · have hcases : b.toNat = 0 ∨ b.toNat = 1 ∨ b.toNat = 2 := by omega
    obtain rfl | rfl | rfl : b = 0 ∨ b = 1 ∨ b = 2 :=
      hcases.imp BitVec.eq_of_toNat_eq (Or.imp BitVec.eq_of_toNat_eq BitVec.eq_of_toNat_eq)
    all_goals exact .inr ⟨h, rfl⟩
  · have hne (n : Byte) (hn : n.toNat ≤ 2) : b ≠ n := by rintro rfl; exact h hn
    refine .inl ⟨Nat.lt_of_not_le h, ?_⟩
    rw [filterKindOf, if_neg (hne 0 (by decide)), if_neg (hne 1 (by decide)), if_neg (hne 2 (by decide))]

/-- The action of an enabled entry as its code names it; the slot index matters to SLOT alone (R52). -/
theorem filterActionOf_cases {b : Byte} (h0 : b ≠ 0) (slot : Byte) :
    (5 < b.toNat ∨ b = 5 ∧ 63 < slot.toNat) ∧ filterActionOf b slot = none
      ∨ b.toNat ≤ 5 ∧ (b = 5 → slot.toNat ≤ 63) ∧ filterActionOf b slot =
        some (if b = 1 then .accept else if b = 2 then .inspect else if b = 3 then .refuse else if b = 4 then .priority
          else .slot (Fin.ofNat 64 slot.toNat)) := by
  have hslot (h : b = 5) (hle : slot.toNat ≤ 63) : indexBelow 64 slot = some (Fin.ofNat 64 slot.toNat) :=
    indexBelow_of_val (by simp; omega)
  by_cases hrange : b.toNat ≤ 5
  · have hcases : b.toNat = 0 ∨ b.toNat = 1 ∨ b.toNat = 2 ∨ b.toNat = 3 ∨ b.toNat = 4 ∨ b.toNat = 5 := by omega
    have hnamed (n : Byte) (h : b.toNat = n.toNat) : b = n := BitVec.eq_of_toNat_eq h
    rcases hcases with h | h | h | h | h | h
    · exact absurd (hnamed 0 h) h0
    · obtain rfl := hnamed 1 h
      exact .inr ⟨hrange, nofun, rfl⟩
    · obtain rfl := hnamed 2 h
      exact .inr ⟨hrange, nofun, rfl⟩
    · obtain rfl := hnamed 3 h
      exact .inr ⟨hrange, nofun, rfl⟩
    · obtain rfl := hnamed 4 h
      exact .inr ⟨hrange, nofun, rfl⟩
    · obtain rfl := hnamed 5 h
      by_cases hle : slot.toNat ≤ 63
      · exact .inr ⟨hrange, fun _ => hle, by simp [filterActionOf, hslot rfl hle]⟩
      · exact .inl ⟨.inr ⟨rfl, Nat.lt_of_not_le hle⟩, by
          simp [filterActionOf, indexBelow_eq_none (n := 64) (Nat.lt_of_not_le hle)]⟩
  · have hne (n : Byte) (hn : n.toNat ≤ 5) : b ≠ n := by rintro rfl; exact hrange hn
    refine .inl ⟨.inl (Nat.lt_of_not_le hrange), ?_⟩
    rw [filterActionOf, if_neg (hne 1 (by decide)), if_neg (hne 2 (by decide)), if_neg (hne 3 (by decide)),
      if_neg (hne 4 (by decide)), if_neg (hne 5 (by decide))]

/-- The two numbers suit the kind that a code names (R52). -/
theorem numbersOk_iff {b : Byte} (first second : Media) :
    numbersOk (if b = 0 then .range else if b = 1 then .pair else .masked) first second = true ↔
      b ≠ 0 ∧ b ≠ 1 ∨ (first ≠ 0 ∧ second ≠ 0 ∧ (b = 0 → first.toNat ≤ second.toNat)) := by
  by_cases h0 : b = 0
  · simp [h0, numbersOk]
  · by_cases h1 : b = 1
    · simp [h1, numbersOk]
    · rw [if_neg h0, if_neg h1]
      simp only [numbersOk, true_iff]
      exact .inl ⟨h0, h1⟩

/-- The entry a LOAD_FILTER writes, or its refusal, by the checks of R52 (R52, R53). -/
theorem filterEntryOf_eq (a : LoadFilterArgs) :
    filterEntryOf a = if a.action ≠ 0 ∧ filterValuesOk a = false then none else some (entryWritten a) := by
  by_cases h0 : a.action = 0
  · rw [if_neg fun h => h.1 h0, filterEntryOf, if_pos h0, entryWritten, if_pos h0]
  have hvalues : filterValuesOk a = true ↔ a.action.toNat ≤ 5 ∧ a.kind.toNat ≤ 2 ∧ (a.kind ≠ 2 → a.first ≠ 0 ∧ a.second ≠ 0)
      ∧ (a.kind = 0 → a.first.toNat ≤ a.second.toNat) ∧ (a.action = 5 → a.slot.toNat ≤ 63) := decide_eq_true_iff
  rw [filterEntryOf, if_neg h0]
  obtain ⟨hkind, hkindOf⟩ | ⟨hkind, hkindOf⟩ := filterKindOf_cases a.kind
  · have hbad : filterValuesOk a = false :=
      Bool.eq_false_of_not_eq_true fun h => absurd (hvalues.mp h).2.1 (by omega)
    rw [if_pos ⟨h0, hbad⟩, hkindOf]
    rfl
  obtain ⟨haction, hactionOf⟩ | ⟨haction, hslot, hactionOf⟩ := filterActionOf_cases h0 a.slot
  · have hbad : filterValuesOk a = false := by
      refine Bool.eq_false_of_not_eq_true fun h => ?_
      obtain ⟨hle, -, -, -, hle'⟩ := hvalues.mp h
      rcases haction with hgt | ⟨h5, hgt⟩
      · omega
      · exact absurd (hle' h5) (by omega)
    rw [if_pos ⟨h0, hbad⟩, hkindOf, hactionOf]
    rfl
  · have hkinds : a.kind ≠ 2 ↔ ¬ (a.kind ≠ 0 ∧ a.kind ≠ 1) := by
      constructor
      · rintro h2 ⟨hk0, hk1⟩
        have hcases : a.kind.toNat = 0 ∨ a.kind.toNat = 1 ∨ a.kind.toNat = 2 := by omega
        rcases hcases with h | h | h
        · exact hk0 (BitVec.eq_of_toNat_eq h)
        · exact hk1 (BitVec.eq_of_toNat_eq h)
        · exact h2 (BitVec.eq_of_toNat_eq h)
      · rintro h h2
        exact h (by rw [h2]; decide)
    have hnumbers : numbersOk (if a.kind = 0 then .range else if a.kind = 1 then .pair else .masked) a.first a.second = true ↔
        filterValuesOk a = true := by
      rw [numbersOk_iff, hvalues, hkinds]
      constructor
      · rintro (h | ⟨hfirst, hsecond, hordered⟩)
        · exact ⟨haction, hkind, fun hk => absurd h hk, fun hk => absurd hk h.1, hslot⟩
        · exact ⟨haction, hkind, fun _ => ⟨hfirst, hsecond⟩, hordered, hslot⟩
      · rintro ⟨-, -, hnonzero, hordered, -⟩
        by_cases h : a.kind ≠ 0 ∧ a.kind ≠ 1
        · exact .inl h
        · exact .inr ⟨(hnonzero h).1, (hnonzero h).2, hordered⟩
    have hrefused : (a.action ≠ 0 ∧ filterValuesOk a = false) ↔ ¬ filterValuesOk a = true :=
      ⟨fun h => by simp [h.2], fun h => ⟨h0, Bool.eq_false_of_not_eq_true h⟩⟩
    simp only [hkindOf, hactionOf, Option.pure_def, Option.bind_eq_bind, Option.bind_some, if_congr hnumbers rfl rfl,
      if_congr hrefused rfl rfl, ite_not, entryWritten, if_neg h0]
    rfl

theorem State.searching_iff (s : State) : s.searching = true ↔ s.engine.map (·.stage) = some .searching := by
  cases h : s.engine <;> simp [State.searching, h]

/-- A LOAD_FILTER that is offered is taken and handed to its block. -/
theorem exec_loadFilter_of_offers {s : State} {tag : Byte} {rest : List MgmtFrame} {a : LoadFilterArgs}
    (h : s.offers .loadFilter tag a.bytes rest) :
    exec .loadFilter s = .next (loadFilter tag a { s with receiveList := rest }) :=
  takeFrame_of_offers h (parseLoadFilter_bytes a)

/-- Settles O17: index, then values, then whether a search runs. -/
theorem loadFilterByTable : Obligations.LoadFilterByTable := by
  intro s tag rest a hoffers
  rw [exec_loadFilter_of_offers hoffers]
  refine ⟨fun hbeyond => ?_, fun i hi => ?_⟩
  · simp only [loadFilter, indexBelow_eq_none (n := 128) hbeyond]
    rfl
  · simp only [loadFilter, indexBelow_of_val hi, filterEntryOf_eq]
    by_cases hbad : a.action ≠ 0 ∧ filterValuesOk a = false
    · simp only [if_pos hbad]
      rfl
    · by_cases hsearching : s.engine.map (·.stage) = some .searching
      · have hruns : State.searching { s with receiveList := rest } = true := s.searching_iff.mpr hsearching
        simp only [if_neg hbad, if_pos hsearching, if_pos hruns]
      · have hidle : ¬ State.searching { s with receiveList := rest } = true := fun h => hsearching (s.searching_iff.mp h)
        simp only [if_neg hbad, if_neg hsearching, if_neg hidle]
        rfl

/-! ### CLEAR_BANK and ACTIVATE_BANK (R122 to R126) -/

theorem State.bankHeld_iff (s : State) (n : BankName) : s.bankHeld n = true ↔ Held s n := by
  simp [State.bankHeld, Held]

theorem State.setBank_eq (s : State) (n : BankName) (b : Bank) : s.setBank n b = withBank s n b := by
  cases n <;> rfl

/-- The REPLY to a command that has replaced a bank. -/
theorem reply_withBank (s : State) (rest : List MgmtFrame) (n : BankName) (b : Bank) (c : Command) (tag : Byte)
    (r : ReplyResult) (d : ReplyData) :
    (withBank { s with receiveList := rest } n b).reply c tag r d = withBank (answered s rest c tag r d) n b := by
  cases n <;> rfl

theorem entryAt_empty (i : TableIndex) : entryAt Bank.empty i = none := by
  cases i <;> simp [entryAt, Bank.empty]

/-- A CLEAR_BANK that is offered is taken and handed to its block. -/
theorem exec_clearBank_of_offers {s : State} {tag a : Byte} {rest : List MgmtFrame} (h : s.offers .clearBank tag [a] rest) :
    exec .clearBank s = .next (clearBank tag a { s with receiveList := rest }) :=
  takeFrame_of_offers h (parseOneByte_singleton a)

/-- Settles O19: a bank that is named and not held is replaced by one without entries. -/
theorem clearBankUnloadsFreeBank : Obligations.ClearBankUnloadsFreeBank := by
  intro s tag rest a hoffers
  rw [exec_clearBank_of_offers hoffers]
  refine ⟨fun hbeyond => ?_, ?_⟩
  · simp only [clearBank, bankOf_eq_none hbeyond]
    rfl
  · rintro n rfl
    have hsame : State.bankHeld { s with receiveList := rest } n = true ↔ Held s n := s.bankHeld_iff n
    refine ⟨fun hheld => ?_, fun hfree => ⟨Bank.empty, ?_, entryAt_empty, rfl⟩⟩
    · simp only [clearBank, bankOf_bankCode, if_pos (hsame.mpr hheld)]
      rfl
    · simp only [clearBank, bankOf_bankCode, if_neg (mt hsame.mp hfree), State.setBank_eq, reply_withBank]

/-- An ACTIVATE_BANK that is offered is taken and handed to its block. -/
theorem exec_activateBank_of_offers {s : State} {tag : Byte} {rest : List MgmtFrame} {a : ActivateBankArgs}
    (h : s.offers .activateBank tag a.bytes rest) :
    exec .activateBank s = .next (activateBank tag a { s with receiveList := rest }) :=
  takeFrame_of_offers h (parseActivateBank_bytes a)

/-- Settles O20: the six rows in order. -/
theorem activateBankByTable : Obligations.ActivateBankByTable := by
  intro s tag rest a hoffers
  rw [exec_activateBank_of_offers hoffers]
  refine ⟨fun hbeyond => ?_, fun n hbank => ?_⟩
  · simp only [activateBank, bankOf_eq_none hbeyond]
    rfl
  · have hcount : State.bank { s with receiveList := rest } n = s.bank n := by cases n <;> rfl
    simp only [activateBank, hbank, bankOf_bankCode, hcount]
    congr 1
    refine if_congr Option.isSome_iff_ne_none rfl (if_congr Iff.rfl rfl (if_congr Iff.rfl rfl ?_))
    by_cases hidle : s.engine = none
    · have hbusy : ¬ State.engineBusy { s with receiveList := rest } = true := by simp [State.engineBusy, hidle]
      rw [if_pos hidle, if_neg hbusy]
      rfl
    · have hbusy : State.engineBusy { s with receiveList := rest } = true := Option.isSome_iff_ne_none.mpr hidle
      rw [if_neg hidle, if_pos hbusy]

/-! ### LOAD_SLOT and CLEAR_SLOT (R105 to R107) -/

theorem State.slotBusy_iff (s : State) (k : SlotNo) : s.slotBusy k = true ↔ Busy s k := by
  unfold State.slotBusy Busy
  rw [Bool.or_eq_true]
  refine or_congr ?_ ?_
  · cases s.slots[k] <;> simp
  · cases s.engine <;> simp

/-- A LOAD_SLOT that is offered is taken and handed to its block. -/
theorem exec_loadSlot_of_offers {s : State} {tag : Byte} {rest : List MgmtFrame} {a : LoadSlotArgs}
    (h : s.offers .loadSlot tag a.bytes rest) :
    exec .loadSlot s = .next (loadSlot tag a { s with receiveList := rest }) :=
  takeFrame_of_offers h (parseLoadSlot_bytes a)

/-- Settles O22: index, then media number and limit, then whether the slot is busy. -/
theorem loadSlotByTable : Obligations.LoadSlotByTable := by
  intro s tag rest a hoffers
  rw [exec_loadSlot_of_offers hoffers]
  refine ⟨fun hbeyond => ?_, fun k hk => ⟨fun hbad => ?_, fun hmedia hlow hhigh hbusy => ?_, fun hmedia hlow hhigh hfree => ?_⟩⟩
  · simp only [loadSlot, indexBelow_eq_none (n := 64) hbeyond]
    rfl
  · simp only [loadSlot, indexBelow_of_val hk]
    rcases hbad with hmedia | hlimit
    · rw [if_pos hmedia]
      rfl
    · rw [if_pos hlimit, ite_self]
      rfl
  · have hlimit : ¬ (a.limit.toNat = 0 ∨ 15 < a.limit.toNat) := by omega
    have hslot : State.slotBusy { s with receiveList := rest } k = true := (s.slotBusy_iff k).mpr hbusy
    simp only [loadSlot, indexBelow_of_val hk, if_neg hmedia, if_neg hlimit, if_pos hslot]
    rfl
  · have hlimit : ¬ (a.limit.toNat = 0 ∨ 15 < a.limit.toNat) := by omega
    have hslot : ¬ State.slotBusy { s with receiveList := rest } k = true := mt (s.slotBusy_iff k).mp hfree
    simp only [loadSlot, indexBelow_of_val hk, if_neg hmedia, if_neg hlimit, if_neg hslot]
    rfl

/-- A CLEAR_SLOT that is offered is taken and handed to its block. -/
theorem exec_clearSlot_of_offers {s : State} {tag a : Byte} {rest : List MgmtFrame} (h : s.offers .clearSlot tag [a] rest) :
    exec .clearSlot s = .next (clearSlot tag a { s with receiveList := rest }) :=
  takeFrame_of_offers h (parseOneByte_singleton a)

/-- The product of a code, when there is one and it is loaded. -/
theorem Bank.product_eq_join (b : Bank) (code : Byte) : b.product code = (b.products[code.toNat]?).join := by
  unfold Bank.product
  cases b.products[code.toNat]? <;> rfl

theorem notExpired_eq (expiry : Option (BitVec 16)) (today : Nat) :
    notExpired expiry today = !expiry.all fun x => decide (x.toNat < today) := by
  cases expiry with
  | none => rfl
  | some x =>
    rw [Bool.eq_iff_iff]
    simp [notExpired]

/-- A capped pass that passes the checks before its slot is refused SLOT_MISMATCH when that slot is empty (R37). -/
theorem kindRefusal_of_empty_slot {s : State} {d : Decision} {c : CardData} {k : SlotNo} {f : SailingFound}
    {e : ProductEntry} {x : BitVec 16} (hkind : d.kind = some .cappedPass) (hslot : d.slot = some k) (hempty : s.slots[k] = none)
    (hfound : d.found = some f) (hproduct : ((s.bank d.bank).products[c.product.toNat]?).join = some e)
    (hline : e.lines.getLsbD f.line.val = true) (hexpiry : c.passExpiry = some x) (hday : d.time.day ≤ x.toNat) :
    kindRefusal s d c = some .slotMismatch := by
  simp only [kindRefusal, Bank.product_eq_join, hproduct, hfound, hkind, hexpiry, notExpired, decide_eq_true hday, hline,
    Bool.not_true, Bool.false_eq_true, if_false, cappedRefusal, hslot, Option.bind_some, hempty]

/-- Settles O23: CLEAR_SLOT by its rows, and the check of R37 that an empty slot fails. -/
theorem clearSlotEmptiesFreeSlot : Obligations.ClearSlotEmptiesFreeSlot := by
  refine ⟨fun s tag rest a hoffers => ?_, fun s d t k f e x hdeciding hkind hslot hempty hfound hproduct hline hexpiry hday => ?_⟩
  · rw [exec_clearSlot_of_offers hoffers]
    refine ⟨fun hbeyond => ?_, fun k hk => ⟨fun hbusy => ?_, fun hfree => ?_⟩⟩
    · simp only [clearSlot, indexBelow_eq_none (n := 64) hbeyond]
      rfl
    · have hslot : State.slotBusy { s with receiveList := rest } k = true := (s.slotBusy_iff k).mpr hbusy
      simp only [clearSlot, indexBelow_of_val hk, if_pos hslot]
      rfl
    · have hslot : ¬ State.slotBusy { s with receiveList := rest } k = true := mt (s.slotBusy_iff k).mp hfree
      simp only [clearSlot, indexBelow_of_val hk, if_neg hslot]
      rfl
  · simp only [exec, execProductKindStage, State.atStage_of_deciding hdeciding, productKindStage,
      kindRefusal_of_empty_slot hkind hslot hempty hfound hproduct hline hexpiry hday]
    rfl

end Sys2Proof.Machine
end

section
/-! Argument layouts (R183, R185): the bytes of a field are the field's place in the payload, so a payload that is read is
the concatenation of its fields' bytes. -/
namespace Sys2Proof.Machine
open Sys2Proof.Claims

/-! ### A field and its place -/

theorem natOfBytes_append_singleton (bs : List Byte) (b : Byte) : natOfBytes (bs ++ [b]) = natOfBytes bs * 256 + b.toNat := by
  simp [natOfBytes]

theorem natOfBytes_lt (bs : List Byte) : natOfBytes bs < 256 ^ bs.length := by
  induction bs using List.reverseRecOn with
  | nil => decide
  | append_singleton bs b ih =>
    have hb : b.toNat < 256 := b.isLt
    rw [natOfBytes_append_singleton, List.length_append, List.length_singleton, pow_succ]
    calc natOfBytes bs * 256 + b.toNat < natOfBytes bs * 256 + 256 := by omega
      _ = (natOfBytes bs + 1) * 256 := by ring
      _ ≤ 256 ^ bs.length * 256 := Nat.mul_le_mul_right 256 ih

/-- The bytes that spell the number of some bytes are these bytes. -/
theorem beBytes_natOfBytes (bs : List Byte) : beBytes bs.length (natOfBytes bs) = bs := by
  induction bs using List.reverseRecOn with
  | nil => rfl
  | append_singleton bs b ih =>
    have hb : b.toNat < 256 := b.isLt
    have hquotient : (natOfBytes bs * 256 + b.toNat) / 256 = natOfBytes bs := by omega
    have hbyte : BitVec.ofNat 8 (natOfBytes bs * 256 + b.toNat) = b := BitVec.eq_of_toNat_eq (by simp; omega)
    rw [natOfBytes_append_singleton, List.length_append, List.length_singleton, beBytes_succ, hquotient, hbyte, ih]

theorem length_field {bs : List Byte} {off n : Nat} (h : off + n ≤ bs.length) : ((bs.drop off).take n).length = n := by
  simp
  omega

/-- The bytes of a field's number are the bytes at its place. -/
theorem beBytes_fieldNat {bs : List Byte} {off n : Nat} (h : off + n ≤ bs.length) :
    beBytes n (fieldNat bs off n) = (bs.drop off).take n := by
  have hbytes := beBytes_natOfBytes ((bs.drop off).take n)
  rwa [length_field h] at hbytes

theorem fieldNat_lt {bs : List Byte} {off n : Nat} (h : off + n ≤ bs.length) : fieldNat bs off n < 256 ^ n := by
  have hlt := natOfBytes_lt ((bs.drop off).take n)
  rwa [length_field h] at hlt

/-- A field read as a word of its size is written back as the bytes at its place. -/
theorem beBytes_word {bs : List Byte} {off n : Nat} (w : Nat) (hw : 256 ^ n = 2 ^ w) (h : off + n ≤ bs.length) :
    beBytes n (BitVec.ofNat w (fieldNat bs off n)).toNat = (bs.drop off).take n := by
  rw [BitVec.toNat_ofNat, Nat.mod_eq_of_lt (hw ▸ fieldNat_lt h), beBytes_fieldNat h]

theorem beBytes_one (b : Byte) : beBytes 1 b.toNat = [b] := by
  simp

theorem singleton_fieldByte {bs : List Byte} {off : Nat} (h : off + 1 ≤ bs.length) :
    [fieldByte bs off] = (bs.drop off).take 1 := by
  rw [← beBytes_one, fieldByte, beBytes_word 8 rfl h]

theorem fieldByte_cons {bs : List Byte} {off : Nat} (h : off + 1 ≤ bs.length) (l : List Byte) :
    fieldByte bs off :: l = (bs.drop off).take 1 ++ l := by
  rw [← singleton_fieldByte h, List.singleton_append]

/-- A field and the bytes behind it are the bytes from its place on. -/
theorem field_append_rest {bs : List Byte} (off n : Nat) {next : Nat} (h : next = off + n) :
    (bs.drop off).take n ++ bs.drop next = bs.drop off := by
  rw [h, ← List.drop_drop, List.take_append_drop]

/-- The last field is all the bytes from its place on. -/
theorem last_field {bs : List Byte} (off n : Nat) (h : bs.length = off + n) : (bs.drop off).take n = bs.drop off :=
  List.take_of_length_le (by simp; omega)

theorem bytes_eq_one {bs : List Byte} {b : Byte} (h : bs.length = 1) (hb : fieldByte bs 0 = b) : bs = [b] := by
  rw [← hb, singleton_fieldByte (by omega), last_field 0 1 h, List.drop_zero]

/-! ### Each layout read back -/

theorem bytes_of_parseSetTime {bs : List Byte} {a : SetTimeArgs} (h : parseSetTime bs = some a) : bs = a.bytes := by
  unfold parseSetTime at h
  split at h
  case isTrue hlen =>
    cases h
    rw [SetTimeArgs.bytes, field16, field24, beBytes_word 16 rfl (by omega), beBytes_word 24 rfl (by omega),
      last_field 2 3 hlen, field_append_rest 0 2 rfl, List.drop_zero]
  case isFalse => cases h

theorem bytes_of_parseSetLimits {bs : List Byte} {a : SetLimitsArgs} (h : parseSetLimits bs = some a) : bs = a.bytes := by
  unfold parseSetLimits at h
  split at h
  case isTrue hlen =>
    cases h
    simp only [SetLimitsArgs.bytes, field16]
    rw [beBytes_word 16 rfl (by omega), beBytes_word 16 rfl (by omega), beBytes_word 16 rfl (by omega),
      beBytes_word 16 rfl (by omega)]
    simp only [List.append_assoc]
    rw [last_field 6 2 hlen, field_append_rest 4 2 rfl, field_append_rest 2 2 rfl, field_append_rest 0 2 rfl, List.drop_zero]
  case isFalse => cases h

theorem bytes_of_parseSetParameters {bs : List Byte} {a : SetParametersArgs} (h : parseSetParameters bs = some a) :
    bs = a.bytes := by
  unfold parseSetParameters at h
  split at h
  case isTrue hlen =>
    cases h
    simp only [SetParametersArgs.bytes, field16]
    rw [beBytes_word 16 rfl (by omega), beBytes_word 16 rfl (by omega), beBytes_word 16 rfl (by omega),
      singleton_fieldByte (by omega), beBytes_word 16 rfl (by omega), beBytes_word 16 rfl (by omega)]
    simp only [List.append_assoc]
    rw [last_field 9 2 hlen, field_append_rest 7 2 rfl, field_append_rest 6 1 rfl, field_append_rest 4 2 rfl,
      field_append_rest 2 2 rfl, field_append_rest 0 2 rfl, List.drop_zero]
  case isFalse => cases h

/-- Single bytes in order are the bytes of a list. -/
theorem bytes_of_parseSetAlertMask {bs : List Byte} {a : SetAlertMaskArgs} (h : parseSetAlertMask bs = some a) :
    bs = a.bytes := by
  unfold parseSetAlertMask at h
  split at h
  case isTrue hlen =>
    cases h
    obtain ⟨b0, b1, b2, rfl⟩ := List.length_eq_three.mp hlen
    simp [SetAlertMaskArgs.bytes, fieldByte, fieldNat_cons_zero, fieldNat_cons_succ]
  case isFalse => cases h

theorem bytes_of_parseReadEntry {bs : List Byte} {a : ReadEntryArgs} (h : parseReadEntry bs = some a) : bs = a.bytes := by
  unfold parseReadEntry at h
  split at h
  case isTrue hlen =>
    cases h
    obtain ⟨b0, b1, b2, rfl⟩ := List.length_eq_three.mp hlen
    simp [ReadEntryArgs.bytes, fieldByte, fieldNat_cons_zero, fieldNat_cons_succ]
  case isFalse => cases h

theorem bytes_of_parseActivateBank {bs : List Byte} {a : ActivateBankArgs} (h : parseActivateBank bs = some a) :
    bs = a.bytes := by
  unfold parseActivateBank at h
  split at h
  case isTrue hlen =>
    cases h
    obtain ⟨b0, b1, rfl⟩ := List.length_eq_two.mp hlen
    simp [ActivateBankArgs.bytes, fieldByte, fieldNat_cons_zero, fieldNat_cons_succ]
  case isFalse => cases h

theorem bytes_of_parseGateConfig {bs : List Byte} {a : GateConfigArgs} (h : parseGateConfig bs = some a) : bs = a.bytes := by
  unfold parseGateConfig at h
  split at h
  case isTrue hlen =>
    cases h
    obtain ⟨b0, b1, b2, b3, b4, b5, rfl⟩ : ∃ b0 b1 b2 b3 b4 b5, bs = [b0, b1, b2, b3, b4, b5] := by
      obtain ⟨b0, b1, b2, hfront⟩ := List.length_eq_three.mp (length_field (bs := bs) (off := 0) (n := 3) (by omega))
      obtain ⟨b3, b4, b5, hback⟩ := List.length_eq_three.mp (length_field (bs := bs) (off := 3) (n := 3) (by omega))
      refine ⟨b0, b1, b2, b3, b4, b5, ?_⟩
      rw [← List.drop_zero (l := bs), ← field_append_rest 0 3 rfl, ← last_field 3 3 hlen, hfront, hback]
      rfl
    simp [GateConfigArgs.bytes, fieldByte, fieldNat_cons_zero, fieldNat_cons_succ]
  case isFalse => cases h

theorem bytes_of_parseLoadFilter {bs : List Byte} {a : LoadFilterArgs} (h : parseLoadFilter bs = some a) : bs = a.bytes := by
  unfold parseLoadFilter at h
  split at h
  case isTrue hlen =>
    cases h
    simp only [LoadFilterArgs.bytes, field48]
    rw [beBytes_word 48 rfl (by omega), beBytes_word 48 rfl (by omega), fieldByte_cons (by omega), fieldByte_cons (by omega),
      fieldByte_cons (by omega), fieldByte_cons (by omega), fieldByte_cons (by omega)]
    simp only [List.append_assoc, List.append_nil]
    rw [last_field 16 1 hlen, field_append_rest 15 1 rfl, field_append_rest 9 6 rfl, field_append_rest 3 6 rfl,
      field_append_rest 2 1 rfl, field_append_rest 1 1 rfl, field_append_rest 0 1 rfl, List.drop_zero]
  case isFalse => cases h

theorem bytes_of_parseLoadFare {bs : List Byte} {a : LoadFareArgs} (h : parseLoadFare bs = some a) :
    bs = a.bytes ∧ a.contents.length = 22 := by
  unfold parseLoadFare at h
  split at h
  case isTrue hlen =>
    cases h
    obtain ⟨b0, b1, b2, hfront⟩ := List.length_eq_three.mp (length_field (bs := bs) (off := 0) (n := 3) (by omega))
    have hbytes : bs = [b0, b1, b2] ++ bs.drop 3 := by
      rw [← hfront, field_append_rest 0 3 rfl, List.drop_zero]
    refine ⟨?_, by simp; omega⟩
    rw [hbytes]
    simp [LoadFareArgs.bytes, fieldByte, fieldNat_cons_zero, fieldNat_cons_succ]
  case isFalse => cases h

theorem bytes_of_parseLoadSlot {bs : List Byte} {a : LoadSlotArgs} (h : parseLoadSlot bs = some a) : bs = a.bytes := by
  unfold parseLoadSlot at h
  split at h
  case isTrue hlen =>
    cases h
    simp only [LoadSlotArgs.bytes, field48]
    rw [beBytes_word 48 rfl (by omega), singleton_fieldByte (by omega), singleton_fieldByte (by omega)]
    simp only [List.append_assoc]
    rw [last_field 7 1 hlen, field_append_rest 1 6 rfl, field_append_rest 0 1 rfl, List.drop_zero]
  case isFalse => cases h

theorem bytes_of_parseOpenSailing {bs : List Byte} {a : OpenSailingArgs} (h : parseOpenSailing bs = some a) :
    bs = a.bytes := by
  unfold parseOpenSailing at h
  split at h
  case isTrue hlen =>
    cases h
    simp only [OpenSailingArgs.bytes, field16]
    rw [beBytes_word 16 rfl (by omega), beBytes_word 16 rfl (by omega), singleton_fieldByte (by omega),
      singleton_fieldByte (by omega)]
    simp only [List.append_assoc]
    rw [last_field 4 2 hlen, field_append_rest 3 1 rfl, field_append_rest 1 2 rfl, field_append_rest 0 1 rfl, List.drop_zero]
  case isFalse => cases h

theorem bytes_of_parseAckRecords {bs : List Byte} {n : SeqNumber} (h : parseAckRecords bs = some n) :
    bs = beBytes 2 n.toNat := by
  unfold parseAckRecords at h
  split at h
  case isTrue hlen =>
    cases h
    rw [field16, beBytes_word 16 rfl (by omega), last_field 0 2 hlen, List.drop_zero]
  case isFalse => cases h

theorem bytes_of_parseOneByte {bs : List Byte} {b : Byte} (h : parseOneByte bs = some b) : bs = [b] := by
  unfold parseOneByte at h
  split at h
  case isTrue hlen => exact bytes_eq_one hlen (Option.some.inj h)
  case isFalse => cases h

/-! ### Layouts as the table gives them -/

theorem fields_cons (n v : Nat) (l : List (Nat × Nat)) : fields ((n, v) :: l) = beBytes n v ++ fields l := by
  simp [fields, beBytes_eq_num]

theorem fields_nil : fields [] = [] := rfl

theorem fields_append (l m : List (Nat × Nat)) : fields (l ++ m) = fields l ++ fields m := by
  simp [fields]

theorem fields_flatMap {α : Type} (l : List α) (f : α → List (Nat × Nat)) :
    fields (l.flatMap f) = (l.map fun a => fields (f a)).flatten := by
  induction l with
  | nil => rfl
  | cons a l ih => rw [List.flatMap_cons, fields_append, ih, List.map_cons, List.flatten_cons]

theorem productKindByte_eq (k : ProductKind) :
    [productKindByte k] = beBytes 1 ([ProductKind.storedValue, .periodPass, .cappedPass].idxOf k) := by
  cases k <;> rfl

/-- A table entry is its fields in the sizes and order of R185. -/
theorem entryBytes_eq_fields (e : TableEntry) : entryBytes e = fields (entryFields e) := by
  cases e with
  | product e =>
    simp only [entryBytes, entryFields, fields_cons, fields_nil, productKindByte_eq, List.append_nil]
  | band e => simp only [entryBytes, entryFields, fields_cons, fields_nil, List.append_nil, List.append_assoc]
  | curve e =>
    simp only [entryBytes, entryFields, pointBytes, fields_cons, fields_nil, List.append_nil, List.append_assoc]
  | concession factor => simp only [entryBytes, entryFields, fields_cons, fields_nil, List.append_nil]

/-- Settles O52: what is read is written back as the same bytes, field by field, and what is written is read back. -/
theorem argumentLayoutsReadBothWays : Obligations.ArgumentLayoutsReadBothWays := by
  refine ⟨fun bs a => ⟨bytes_of_parseSetTime, ?_⟩, fun bs a => ⟨bytes_of_parseSetLimits, ?_⟩,
    fun bs a => ⟨bytes_of_parseSetParameters, ?_⟩, fun bs a => ⟨bytes_of_parseSetAlertMask, ?_⟩,
    fun bs a => ⟨bytes_of_parseGateConfig, ?_⟩, fun bs a => ⟨bytes_of_parseLoadFilter, ?_⟩,
    fun bs a => ⟨bytes_of_parseLoadFare, ?_⟩, fun bs a => ⟨bytes_of_parseActivateBank, ?_⟩,
    fun bs a => ⟨bytes_of_parseReadEntry, ?_⟩, fun bs a => ⟨bytes_of_parseLoadSlot, ?_⟩,
    fun bs a => ⟨bytes_of_parseOpenSailing, ?_⟩, fun bs n => ?_, fun bs b => ⟨bytes_of_parseOneByte, ?_⟩,
    fun a => ?_, fun a => ?_, fun a => ?_, fun a => rfl, fun a => rfl, fun a => ?_, fun a => rfl, fun a => rfl, fun a => rfl,
    fun a => ?_, fun a => ?_, entryBytes_eq_fields⟩
  case refine_7 => rintro ⟨rfl, hlen⟩; exact parseLoadFare_bytes a hlen
  case refine_12 =>
    rw [← beBytes_eq_num]
    exact ⟨bytes_of_parseAckRecords, by rintro rfl; exact parseAckRecords_bytes n⟩
  case refine_13 => rintro rfl; exact parseOneByte_singleton b
  case refine_14 => simp only [SetTimeArgs.bytes, fields_cons, fields_nil, List.append_nil]
  case refine_15 => simp only [SetLimitsArgs.bytes, fields_cons, fields_nil, List.append_nil, List.append_assoc]
  case refine_16 =>
    simp only [SetParametersArgs.bytes, fields_cons, fields_nil, beBytes_one, List.append_nil, List.append_assoc]
  case refine_17 =>
    simp only [LoadFilterArgs.bytes, fields_cons, fields_nil, beBytes_one, List.append_nil, List.append_assoc,
      List.cons_append, List.nil_append]
  case refine_18 => simp only [LoadSlotArgs.bytes, fields_cons, fields_nil, beBytes_one, List.append_nil, List.append_assoc]
  case refine_19 => simp only [OpenSailingArgs.bytes, fields_cons, fields_nil, beBytes_one, List.append_nil, List.append_assoc]
  all_goals rintro rfl
  · exact parseSetTime_bytes a
  · exact parseSetLimits_bytes a
  · exact parseSetParameters_bytes a
  · exact parseSetAlertMask_bytes a
  · exact parseGateConfig_bytes a
  · exact parseLoadFilter_bytes a
  · exact parseActivateBank_bytes a
  · exact parseReadEntry_bytes a
  · exact parseLoadSlot_bytes a
  · exact parseOpenSailing_bytes a

end Sys2Proof.Machine
end

section
/-! LOAD_FARE (R118 to R121): which contents spell an entry of a table, and what writing it makes of a bank. -/
namespace Sys2Proof.Machine
open Sys2Proof.Claims

/-! ### The entry that contents spell -/

/-- A number written in front of the bytes read is read back when it fits. -/
theorem fieldNat_beBytes_of_lt {n v : Nat} (h : v < 256 ^ n) (ys : List Byte) : fieldNat (beBytes n v ++ ys) 0 n = v := by
  rw [fieldNat_beBytes_append, Nat.mod_eq_of_lt h]

theorem indexBelow_fieldByte {bs : List Byte} {off n : Nat} {i : Fin n} (h : off + 1 ≤ bs.length)
    (hindex : indexBelow n (fieldByte bs off) = some i) : beBytes 1 i.val = (bs.drop off).take 1 := by
  rw [(indexBelow_eq_some_iff _ i).mp hindex, beBytes_one, singleton_fieldByte h]

/-- A point is read exactly when it is in range. -/
theorem pointOf_eq_some_iff (bs : List Byte) (off : Nat) (p : CurvePoint) :
    pointOf bs off = some p ↔ (p.source ≤ 256 ∧ p.value ≤ 511 ∧ p.slope ≤ 2047)
      ∧ fieldNat bs off 2 = p.source ∧ fieldNat bs (off + 2) 2 = p.value ∧ fieldNat bs (off + 4) 2 = p.slope := by
  obtain ⟨source, value, slope⟩ := p
  simp only [pointOf, Option.ite_none_right_eq_some, Option.some.injEq, CurvePoint.mk.injEq]
  constructor
  · rintro ⟨hrange, rfl, rfl, rfl⟩
    exact ⟨hrange, rfl, rfl, rfl⟩
  · rintro ⟨hrange, rfl, rfl, rfl⟩
    exact ⟨hrange, rfl, rfl, rfl⟩

theorem productKindOf_eq_some_iff (b : Byte) (k : ProductKind) : productKindOf b = some k ↔ productKindByte k = b := by
  constructor
  · intro h
    unfold productKindOf at h
    split_ifs at h with h0 h1 h2 <;> cases h
    · exact h0.symm
    · exact h1.symm
    · exact h2.symm
  · rintro rfl
    cases k <;> rfl

/-- Contents that are read as an entry begin with its bytes, and the entry is in range. -/
theorem entryOf_spelled {i : TableIndex} {bs : List Byte} {e : TableEntry} (hlen : bs.length = 22)
    (h : entryOf i bs = some e) : shapeFits i e ∧ entryInRange e ∧ entryBytes e <+: bs := by
  cases i with
  | product i =>
    obtain ⟨kind, hkind, rfl⟩ := Option.map_eq_some_iff.mp h
    refine ⟨trivial, trivial, bs.drop 5, ?_⟩
    simp only [entryBytes, (productKindOf_eq_some_iff _ _).mp hkind, field32]
    rw [singleton_fieldByte (by omega), beBytes_word 32 rfl (by omega), List.append_assoc, field_append_rest 1 4 rfl,
      field_append_rest 0 1 rfl, List.drop_zero]
  | band i =>
    simp only [entryOf, Option.bind_eq_bind, Option.bind_eq_some_iff, Option.pure_def, Option.ite_none_right_eq_some,
      Option.some.injEq] at h
    obtain ⟨curve, hcurve, ⟨hbase, hfloor, hceiling, hwindow, hcap, horder⟩, rfl⟩ := h
    refine ⟨trivial, ⟨hbase, horder, hceiling, hwindow, hcap⟩, bs.drop 10, ?_⟩
    simp only [entryBytes, indexBelow_fieldByte (show 6 + 1 ≤ bs.length by omega) hcurve]
    rw [beBytes_fieldNat (by omega), beBytes_fieldNat (by omega), beBytes_fieldNat (by omega), beBytes_fieldNat (by omega),
      beBytes_fieldNat (by omega)]
    simp only [List.append_assoc]
    rw [field_append_rest 8 2 rfl, field_append_rest 7 1 rfl, field_append_rest 6 1 rfl, field_append_rest 4 2 rfl,
      field_append_rest 2 2 rfl, field_append_rest 0 2 rfl, List.drop_zero]
  | curve i =>
    simp only [entryOf, Option.bind_eq_bind, Option.bind_eq_some_iff, Option.pure_def, Option.ite_none_right_eq_some,
      Option.some.injEq] at h
    obtain ⟨p1, h1, p2, h2, p3, h3, ⟨hvalue, hslope, horder12, horder23⟩, rfl⟩ := h
    obtain ⟨hrange1, hsource1, hvalue1, hslope1⟩ := (pointOf_eq_some_iff bs 4 p1).mp h1
    obtain ⟨hrange2, hsource2, hvalue2, hslope2⟩ := (pointOf_eq_some_iff bs 10 p2).mp h2
    obtain ⟨hrange3, hsource3, hvalue3, hslope3⟩ := (pointOf_eq_some_iff bs 16 p3).mp h3
    refine ⟨trivial, ⟨hvalue, hslope, ?_, horder12, horder23⟩, [], ?_⟩
    · simp only [List.forall_mem_cons]
      exact ⟨hrange1, hrange2, hrange3, nofun⟩
    · simp only [entryBytes, pointBytes, ← hsource1, ← hvalue1, ← hslope1, ← hsource2, ← hvalue2, ← hslope2, ← hsource3,
        ← hvalue3, ← hslope3]
      rw [beBytes_fieldNat (by omega), beBytes_fieldNat (by omega), beBytes_fieldNat (by omega), beBytes_fieldNat (by omega),
        beBytes_fieldNat (by omega), beBytes_fieldNat (by omega), beBytes_fieldNat (by omega), beBytes_fieldNat (by omega),
        beBytes_fieldNat (by omega), beBytes_fieldNat (by omega), beBytes_fieldNat (by omega)]
      simp only [List.append_assoc, List.append_nil]
      rw [last_field 20 2 hlen, field_append_rest 18 2 rfl, field_append_rest 16 2 rfl, field_append_rest 14 2 rfl,
        field_append_rest 12 2 rfl, field_append_rest 10 2 rfl, field_append_rest 8 2 rfl, field_append_rest 6 2 rfl,
        field_append_rest 4 2 rfl, field_append_rest 2 2 rfl, field_append_rest 0 2 rfl, List.drop_zero]
  | concession i =>
    simp only [entryOf, Option.ite_none_right_eq_some, Option.some.injEq] at h
    obtain ⟨hrange, rfl⟩ := h
    refine ⟨trivial, hrange, bs.drop 2, ?_⟩
    rw [entryBytes, beBytes_fieldNat (by omega), field_append_rest 0 2 rfl, List.drop_zero]

/-- Contents that begin with the bytes of an entry in range are read as that entry. -/
theorem entryOf_of_spelled {i : TableIndex} {e : TableEntry} (hshape : shapeFits i e) (hrange : entryInRange e)
    (tail : List Byte) : entryOf i (entryBytes e ++ tail) = some e := by
  cases i <;> cases e <;> try exact hshape.elim
  case product.product i e =>
    obtain ⟨kind, lines⟩ := e
    have hkind := (productKindOf_eq_some_iff (productKindByte kind) kind).mpr rfl
    simp [-beBytes_succ, entryOf, entryBytes, field32, fieldByte, fieldNat_cons_zero, fieldNat_cons_succ, hkind,
      ofNat_fieldNat_beBytes_append]
  case band.band i e =>
    obtain ⟨base, floor, ceiling, curve, window, cap⟩ := e
    obtain ⟨hbase, horder, hceiling, hwindow, hcap⟩ := hrange
    simp only at hbase horder hceiling hwindow hcap
    have hcurve : indexBelow 4 (BitVec.ofNat 8 curve.val) = some curve := indexBelow_of_val (by simp; omega)
    have h256 : curve.val < 256 := by omega
    simp [-beBytes_succ, entryOf, entryBytes, fieldByte, fieldNat_append_of_le, fieldNat_beBytes_append, hcurve,
      Nat.mod_eq_of_lt (show base < 65536 by omega), Nat.mod_eq_of_lt (show floor < 65536 by omega),
      Nat.mod_eq_of_lt (show ceiling < 65536 by omega), Nat.mod_eq_of_lt (show window < 256 by omega),
      Nat.mod_eq_of_lt (show cap < 65536 by omega), Nat.mod_eq_of_lt h256, hbase, horder, hceiling, hwindow, hcap,
      horder.trans hceiling]
  case curve.curve i e =>
    obtain ⟨value0, slope0, ⟨s1, v1, k1⟩, ⟨s2, v2, k2⟩, ⟨s3, v3, k3⟩⟩ := e
    obtain ⟨hvalue, hslope, hpoints, horder12, horder23⟩ := hrange
    simp only [List.forall_mem_cons] at hpoints
    obtain ⟨⟨hs1, hv1, hk1⟩, ⟨hs2, hv2, hk2⟩, ⟨hs3, hv3, hk3⟩, -⟩ := hpoints
    simp only at hvalue hslope horder12 horder23
    have hfits (n : Nat) (h : n ≤ 2047) : n % 65536 = n := Nat.mod_eq_of_lt (by omega)
    simp [-beBytes_succ, entryOf, pointOf, entryBytes, pointBytes, fieldNat_append_of_le, fieldNat_beBytes_append,
      hfits value0 (by omega), hfits slope0 hslope, hfits s1 (by omega), hfits v1 (by omega), hfits k1 hk1,
      hfits s2 (by omega), hfits v2 (by omega), hfits k2 hk2, hfits s3 (by omega), hfits v3 (by omega), hfits k3 hk3,
      hs1, hv1, hk1, hs2, hv2, hk2, hs3, hv3, hk3, hvalue, hslope, horder12, horder23]
  case concession.concession i factor =>
    have hfactor : factor ≤ 256 := hrange
    simp [-beBytes_succ, entryOf, entryBytes, fieldNat_beBytes_append, Nat.mod_eq_of_lt (show factor < 65536 by omega), hfactor]

/-! ### The bank behind a write -/

theorem map_getElem_set_fin {α β : Type} {n : Nat} (v : Vector (Option α) n) (i j : Fin n) (x : α) (f : α → β) :
    (v.set i (some x))[j].map f = if j = i then some (f x) else v[j].map f := by
  rw [getElem_set_fin]
  by_cases h : i = j
  · rw [if_pos h, if_pos h.symm, Option.map_some]
  · rw [if_neg h, if_neg (Ne.symm h)]

/-- A write replaces one entry, of its own table, and no other (R121). -/
theorem entryAt_load (b : Bank) {i : TableIndex} {e : TableEntry} (hshape : shapeFits i e) (j : TableIndex) :
    entryAt (b.load i e) j = if j = i then some e else entryAt b j := by
  cases i <;> cases e <;> try exact hshape.elim
  all_goals
    cases j <;> simp [-Fin.getElem_fin, Bank.load, Bank.write, entryAt, map_getElem_set_fin]

theorem load_count (b : Bank) (i : TableIndex) (e : TableEntry) :
    (b.load i e).count = b.count + (if entryAt b i = none then 1 else 0) := by
  simp only [Bank.load, Bank.entry_eq_entryAt]
  cases entryAt b i <;> rfl

/-- A LOAD_FARE that is offered is taken and handed to its block. -/
theorem exec_loadFare_of_offers {s : State} {tag : Byte} {rest : List MgmtFrame} {a : LoadFareArgs}
    (hlen : a.contents.length = 22) (h : s.offers .loadFare tag a.bytes rest) :
    exec .loadFare s = .next (loadFare tag a { s with receiveList := rest }) :=
  takeFrame_of_offers h (parseLoadFare_bytes a hlen)

theorem loadFare_of_unknown (tag : Byte) {a : LoadFareArgs} (s : State)
    (h : 1 < a.bank.toNat ∨ noSuchEntry a.table a.index) :
    loadFare tag a s = s.reply .loadFare tag .badIndex .nothing := by
  rcases h with hbank | hentry
  · simp only [loadFare, bankOf_eq_none hbank]
  · cases hbank : bankOf a.bank <;> simp only [loadFare, hbank, tableIndexOf_eq_none hentry]

/-- LOAD_FARE of an entry that is named: by its contents, then by whether the bank is held (R120). -/
theorem loadFare_of_named (tag : Byte) {a : LoadFareArgs} (s : State) {n : BankName} {i : TableIndex}
    (hbank : a.bank = bankCode n) (hentry : tableCode i = (a.table, a.index.toNat)) :
    loadFare tag a s =
      match entryOf i a.contents with
      | none => s.reply .loadFare tag .badValue .nothing
      | some e =>
        if s.bankHeld n then s.reply .loadFare tag .badState .nothing
        else (withBank s n ((s.bank n).load i e)).reply .loadFare tag .ok (.count ((s.bank n).load i e).count) := by
  simp only [loadFare, hbank, bankOf_bankCode, (tableIndexOf_eq_some_iff a.table a.index i).mpr hentry, State.setBank_eq]
    <;> rfl

/-- Settles O18: the contents are read as an entry exactly when they begin with the bytes of one in range. -/
theorem loadFareWritesFreeBank : Obligations.LoadFareWritesFreeBank := by
  intro s tag rest a hlen hoffers
  rw [exec_loadFare_of_offers hlen hoffers]
  refine ⟨fun hunknown => ?_, fun n i hbank hentry => ⟨fun hnone => ?_, fun e hshape hrange hprefix => ?_⟩⟩
  · rw [loadFare_of_unknown tag _ hunknown]
    rfl
  · have hunread : entryOf i a.contents = none := by
      refine Option.eq_none_iff_forall_ne_some.mpr fun e he => ?_
      obtain ⟨hshape, hrange, hprefix⟩ := entryOf_spelled hlen he
      exact Bool.false_ne_true ((hnone e hshape hrange).symm.trans (List.isPrefixOf_iff_prefix.mpr hprefix))
    rw [loadFare_of_named tag _ hbank hentry, hunread]
    rfl
  · obtain ⟨tail, hcontents⟩ := List.isPrefixOf_iff_prefix.mp hprefix
    have hread : entryOf i a.contents = some e := hcontents ▸ entryOf_of_spelled hshape hrange tail
    have hsame : State.bankHeld { s with receiveList := rest } n = true ↔ Held s n := s.bankHeld_iff n
    have hold : State.bank { s with receiveList := rest } n = s.bank n := by cases n <;> rfl
    rw [loadFare_of_named tag _ hbank hentry, hread]
    refine ⟨fun hheld => ?_, fun hfree => ⟨(s.bank n).load i e, ?_, entryAt_load _ hshape, load_count _ i e⟩⟩
    · simp only [if_pos (hsame.mpr hheld)]
      rfl
    · simp only [if_neg (mt hsame.mp hfree), hold, reply_withBank]

end Sys2Proof.Machine
end

section
/-! Sailings and the record queue (R65, R72, R75, R136, R142): the shared operations in the words of the statements. -/
namespace Sys2Proof.Machine
open Sys2Proof.Claims

/-! ### Alerts and reservations -/

theorem State.alert_eq_alerted (s : State) (masked : Bool) (a : Alert) : s.alert masked a = alerted s masked a := by
  rw [State.alert_eq, State.committed, State.owed, ← Nat.add_assoc]
  rfl

/-- A slot is reserved, and QUEUE_HIGH raised with it when that reaches the high mark (R136, R142). -/
theorem State.reserveSlot_eq_reserved (s : State) : s.reserveSlot = Claims.reserved s := by
  unfold State.reserveSlot State.queueRose Claims.reserved
  rw [State.alert_eq_alerted]
  rfl

theorem reserved_receiveList (s : State) (rest : List MgmtFrame) :
    Claims.reserved { s with receiveList := rest } = { Claims.reserved s with receiveList := rest } := by
  unfold Claims.reserved
  split <;> rfl

/-! ### OPEN_SAILING (R65) -/

/-- An OPEN_SAILING that is offered is taken and handed to its block. -/
theorem exec_openSailing_of_offers {s : State} {tag : Byte} {rest : List MgmtFrame} {a : OpenSailingArgs}
    (h : s.offers .openSailing tag a.bytes rest) :
    exec .openSailing s = .next (openSailing tag a { s with receiveList := rest }) :=
  takeFrame_of_offers h (parseOpenSailing_bytes a)

theorem State.activeBand_receiveList (s : State) (rest : List MgmtFrame) (line : LineCode) :
    State.activeBand { s with receiveList := rest } line = s.activeBank.bind fun n => (s.bank n).bands[line] := by
  unfold State.activeBand
  refine congrArg _ (funext fun n => ?_)
  cases n <;> rfl

/-- A berth that may be opened: what is left are the line, the capacity and the room for its record (R65). -/
theorem openSailing_of_free (tag : Byte) {a : OpenSailingArgs} {s : State} {b : BerthNo} (hberth : a.berth.toNat = b.val)
    (hservice : s.service = .inService) (hopen : s.sailings[b] = none) :
    openSailing tag a s =
      match (indexBelow 32 a.line).filter fun l => (s.activeBand l).isSome with
      | none => s.reply .openSailing tag .badValue .nothing
      | some line =>
        if a.capacity.toNat = 0 ∨ 9999 < a.capacity.toNat then s.reply .openSailing tag .badValue .nothing
        else if !s.canReserve then s.reply .openSailing tag .queueFull .nothing
        else
          (s.reserveSlot.setSailing b
            (some (openedSailing a.sailing line (clampCapacity s.ceilings b a.capacity.toNat) s.now))).reply .openSailing tag
            (if clampCapacity s.ceilings b a.capacity.toNat = a.capacity.toNat then .ok else .clamped)
            (.capacity (clampCapacity s.ceilings b a.capacity.toNat)) := by
  have hclosed : ¬ s.sailings[b].isSome = true := by simp [-Fin.getElem_fin, hopen]
  simp only [openSailing, indexBelow_of_val hberth, if_neg (not_not.mpr hservice), if_neg hclosed] <;> rfl

/-- Settles O24: berth and service state, then line and capacity, then room for the record, then the clamp. -/
theorem openSailingByTable : Obligations.OpenSailingByTable := by
  intro s tag rest a hoffers
  rw [exec_openSailing_of_offers hoffers]
  refine ⟨fun hbeyond => ?_, fun b hberth => ⟨fun hstate => ?_, fun hservice hopen hbad => ?_,
    fun line hline hservice hopen hlow hhigh => ?_⟩⟩
  · simp only [openSailing, indexBelow_eq_none (n := 4) hbeyond]
    rfl
  · simp only [openSailing, indexBelow_of_val hberth]
    rcases hstate with hservice | hopen
    · rw [if_pos hservice]
      rfl
    · have hsome : (State.sailings { s with receiveList := rest })[b].isSome = true := Option.isSome_iff_ne_none.mpr hopen
      rw [if_pos hsome, ite_self]
      rfl
  · rw [openSailing_of_free tag (s := { s with receiveList := rest }) hberth hservice hopen]
    split
    · rfl
    · rename_i line hfilter
      have hindex : indexBelow 32 a.line = some line := (Option.filter_eq_some_iff.mp hfilter).1
      have hlt : a.line.toNat < 32 := (indexBelow_eq_some_iff a.line line).mp hindex ▸ line.isLt
      rw [if_pos (hbad.resolve_left (by omega))]
      rfl
  · intro band
    have hcapacity : ¬ (a.capacity.toNat = 0 ∨ 9999 < a.capacity.toNat) := by omega
    have hband : State.activeBand { s with receiveList := rest } line = band := s.activeBand_receiveList rest line
    have hroom : State.canReserve { s with receiveList := rest } = decide (s.written.length + s.reserved < 256) := rfl
    have hloaded (h : band ≠ none) :
        ((indexBelow 32 a.line).filter fun l => (State.activeBand { s with receiveList := rest } l).isSome) = some line := by
      rw [indexBelow_of_val hline, Option.filter_some, if_pos]
      exact hband ▸ Option.isSome_iff_ne_none.mpr h
    rw [openSailing_of_free tag (s := { s with receiveList := rest }) hberth hservice hopen]
    refine ⟨fun hnone => ?_, fun hsome hfull => ?_, fun tops now hsome hfree hceilings hclock => ?_⟩
    · have hunloaded :
          ((indexBelow 32 a.line).filter fun l => (State.activeBand { s with receiveList := rest } l).isSome) = none := by
        rw [indexBelow_of_val hline, Option.filter_some, if_neg]
        simp [hband, hnone]
      rw [hunloaded]
      rfl
    · rw [hloaded hsome]
      simp only [if_neg hcapacity, hroom, decide_eq_false (Nat.not_lt.mpr hfull), Bool.not_false, if_true]
      rfl
    · have hclamp : clampCapacity (State.ceilings { s with receiveList := rest }) b a.capacity.toNat =
          min a.capacity.toNat tops[b] := by simp only [clampCapacity, hceilings]
      have hnow : State.now { s with receiveList := rest } = now := by simp only [State.now, hclock, Option.getD_some]
      have hstood : min a.capacity.toNat tops[b] = a.capacity.toNat ↔ a.capacity.toNat ≤ tops[b] := min_eq_left_iff
      rw [hloaded hsome]
      simp only [if_neg hcapacity, hroom, decide_eq_true hfree, Bool.not_true, Bool.false_eq_true, if_false, hclamp, hnow,
        if_congr hstood rfl rfl, State.reserveSlot_eq_reserved, reserved_receiveList]
      have hsailings : (Claims.reserved s).sailings = s.sailings := by
        unfold Claims.reserved
        split <;> rfl
      simp only [State.setSailing, hsailings]
      rfl

/-! ### Closing a sailing (R75) -/

/-- What is left of a crew marker when its sailing closes. -/
theorem Transaction.markerDropped_awaiting {t : Transaction} {a : Awaiting} (h : t.state = .awaiting a) :
    t.markerDropped = { t with state := .awaiting { a with place := if a.place = .crew then .nothing else a.place } } := by
  unfold Transaction.markerDropped
  rw [h]
  by_cases hcrew : a.place = .crew
  · simp only [if_pos hcrew]
  · simp only [if_neg hcrew, ← h]

/-- A transaction that does not await its passage has no marker to lose. -/
theorem Transaction.markerDropped_of_not_awaiting {t : Transaction} (h : ∀ a, t.state ≠ .awaiting a) :
    t.markerDropped = t := by
  unfold Transaction.markerDropped
  split
  case h_1 a ha => exact absurd ha (h a)
  case h_2 => rfl

/-- A decision that has learnt of a close learns nothing new from another. -/
theorem noteClosed_eq (d : Decision) (b : BerthNo) :
    (if d.found.map (·.berth) = some b ∧ d.change ≠ .closed then { d with change := .closed } else d) =
      if d.found.map (·.berth) = some b then { d with change := .closed } else d := by
  by_cases hfound : d.found.map (·.berth) = some b
  · by_cases hclosed : d.change = .closed
    · rw [if_neg fun h => h.2 hclosed, if_pos hfound, ← hclosed]
    · rw [if_pos ⟨hfound, hclosed⟩, if_pos hfound]
  · rw [if_neg fun h => hfound h.1, if_neg hfound]

/-- A close as the statements write it. -/
theorem State.closeSailing_eq_closed {s : State} {b : BerthNo} {sl : Sailing} (h : s.sailings[b] = some sl) :
    s.closeSailing b = closed s b sl s.now := by
  have hmarkers (t : Transaction) : t.markerDropped = (match t.state with
      | .awaiting a => { t with state := .awaiting { a with place := if a.place = .crew then .nothing else a.place } }
      | _ => t) := by
    cases hstate : t.state with
    | awaiting a => exact Transaction.markerDropped_awaiting hstate
    | pending w => exact Transaction.markerDropped_of_not_awaiting (by simp [hstate])
    | deciding => exact Transaction.markerDropped_of_not_awaiting (by simp [hstate])
  rw [State.closeSailing_eq h]
  simp only [noteClosed_eq, funext hmarkers]
  rfl

/-! ### DEPART (R72) -/

/-- A DEPART that is offered is taken and handed to its block. -/
theorem exec_depart_of_offers {s : State} {tag a : Byte} {rest : List MgmtFrame} (h : s.offers .depart tag [a] rest) :
    exec .depart s = .next (depart tag a { s with receiveList := rest }) :=
  takeFrame_of_offers h (parseOneByte_singleton a)

/-- DEPART of a berth that holds a sailing: its rows by the sailing's state. -/
theorem depart_of_open (tag : Byte) {a : Byte} {s : State} {b : BerthNo} {sl : Sailing} (hberth : a.toNat = b.val)
    (hsl : s.sailings[b] = some sl) :
    depart tag a s =
      match sl.state with
      | .closing => s.reply .depart tag .badState .nothing
      | .suspended => (closed s b sl s.now).reply .depart tag .ok (.sailingState none)
      | .boarding =>
        if sl.held = 0 then (closed s b sl s.now).reply .depart tag .ok (.sailingState none)
        else ((s.setSailing b (some { sl with state := .closing })).noteChange b .left).reply .depart tag .ok
          (.sailingState (some .closing)) := by
  simp only [depart, indexBelow_of_val hberth, hsl, State.closeSailing_eq_closed hsl] <;> rfl

/-- Settles O25: berth, then the sailing's state, then whether it holds a place. -/
theorem departByTable : Obligations.DepartByTable := by
  intro s tag rest a hoffers
  rw [exec_depart_of_offers hoffers]
  refine ⟨fun hbeyond => ?_, fun b hberth => ⟨fun hnone => ?_, fun sl hsl => ?_⟩⟩
  · simp only [depart, indexBelow_eq_none (n := 4) hbeyond]
    rfl
  · simp only [depart, indexBelow_of_val hberth, hnone]
    rfl
  · rw [depart_of_open tag (s := { s with receiveList := rest }) hberth hsl]
    refine ⟨fun hclosing => ?_, fun now hclock hends => ?_, fun hboarding hheld => ?_⟩
    · simp only [hclosing]
      rfl
    · have hnow : State.now { s with receiveList := rest } = now := by simp only [State.now, hclock, Option.getD_some]
      rcases hends with hsuspended | ⟨hboarding, hheld⟩
      · simp only [hsuspended, hnow]
        rfl
      · simp only [hboarding, if_pos hheld, hnow]
        rfl
    · simp only [hboarding, if_neg (Nat.ne_of_gt hheld), State.noteChange_eq]
      rfl

end Sys2Proof.Machine
end

section
/-! The uplink (R169, R170, R175 to R178): frames that arrive, frames that are not understood, and STATUS. -/
namespace Sys2Proof.Machine
open Sys2Proof.Claims

/-! ### STATUS -/

/-- A STATUS that is offered is taken and handed to its block. -/
theorem exec_status_of_offers {s : State} {tag : Byte} {rest : List MgmtFrame} {args : List Byte} {a : Option Byte}
    (h : s.offers .status tag args rest) (hparse : parseStatus args = some a) :
    exec .status s = .next (statusCommand tag a { s with receiveList := rest }) :=
  takeFrame_of_offers h hparse

/-- The report of a gate as the statement writes it. -/
theorem GateContext.report_eq (c : GateContext) :
    c.report = ⟨c.state, c.list.map fun t => match t.state with
      | .pending _ => .pending
      | .deciding => .deciding
      | .awaiting _ => .awaitingPassage, c.badFrames, c.strays⟩ := by
  have hname (t : Transaction) : t.stateName = (match t.state with
      | .pending _ => .pending
      | .deciding => .deciding
      | .awaiting _ => .awaitingPassage) := by
    unfold Transaction.stateName
    cases t.state <;> rfl
  simp only [GateContext.report, funext hname]

/-- Settles O28: the run of three frames is one reading of the state, and a named gate's counts are cleared behind it. -/
theorem statusReadsEveryBlock : Obligations.StatusReadsEveryBlock := by
  intro s tag rest part gates run
  have hrun : State.produce { s with receiveList := rest } (State.statusRun { s with receiveList := rest } tag) = run := by
    have hgates : s.gates.toList.map GateContext.report = gates :=
      List.map_congr_left fun c _ => c.report_eq
    simp only [State.statusRun, hgates]
    rfl
  refine ⟨fun hoffers => ?_, fun b hoffers => ⟨fun hbeyond => ?_, fun g hgate => ?_⟩⟩
  · rw [exec_status_of_offers hoffers parseStatus_nil]
    exact congrArg _ hrun
  · rw [exec_status_of_offers hoffers (parseStatus_singleton b)]
    simp only [statusCommand, indexBelow_eq_none (n := 16) hbeyond]
    rfl
  · rw [exec_status_of_offers hoffers (parseStatus_singleton b)]
    simp only [statusCommand, indexBelow_of_val hgate, hrun]
    rfl

/-! ### Frames that are not understood (R169) -/

/-- The twenty-two commands in the order of their codes. -/
def Command.all : List Command :=
  [.setTime, .setLimits, .setParameters, .setAlertMask, .gateConfig, .loadFilter, .loadFare, .clearBank, .activateBank,
    .readEntry, .loadSlot, .clearSlot, .openSailing, .depart, .musterStart, .musterEnd, .startService, .stopService,
    .fetchRecords, .ackRecords, .status, .reset]

/-- Every known code is the code of a command. -/
theorem exists_code_of_knownCode {code : Byte} (h : knownCode code = true) : ∃ c : Command, c.code = code := by
  have hall : ∀ n : Fin 23, 1 ≤ n.val → ∃ c ∈ Command.all, c.code.toNat = n.val := by decide
  obtain ⟨hlow, hhigh⟩ := decide_eq_true_iff.mp h
  obtain ⟨c, -, hc⟩ := hall ⟨code.toNat, Nat.lt_succ_of_le hhigh⟩ hlow
  exact ⟨c, BitVec.eq_of_toNat_eq hc⟩

/-- Arguments of a length that a command does not take are read as nothing, so its row answers MALFORMED. -/
theorem exec_rowOf_malformed {s : State} {c : Command} {tag : Byte} {args : List Byte} {rest : List MgmtFrame}
    (h : s.offers c tag args rest) (hlen : args.length ∉ argLengths c) :
    exec (rowOf c) s = .next (State.reply { s with receiveList := rest } c tag .malformed .nothing) := by
  cases c
  case status =>
    obtain ⟨h0, h1⟩ : args.length ≠ 0 ∧ args.length ≠ 1 := by
      simpa only [argLengths, List.mem_cons, List.not_mem_nil, or_false, not_or] using hlen
    have hunread : parseStatus args = none := by rw [parseStatus, if_neg h0, if_neg h1]
    exact takeFrame_malformed h hunread
  case musterStart | musterEnd | startService | stopService | reset =>
    have hunread : parseNothing args = none := if_neg (mt List.mem_singleton.mpr hlen)
    simp only [rowOf, exec, execMusterStart, execMusterEnd, execStartService, execStopService, execReset,
      takeFrame_malformed h hunread]
  all_goals exact takeFrame_malformed h (if_neg (mt List.mem_singleton.mpr hlen))

/-- Settles O30: an unknown code is the code of no command, and a wrong length is read as no arguments. -/
theorem unknownAndMalformedAreAnswered : Obligations.UnknownAndMalformedAreAnswered := by
  refine ⟨fun s code tag args rest hphase hlist hroom hunknown => ?_, fun s c tag args rest hoffers hlen => ?_⟩
  · have hcode : knownCode code = false :=
      Bool.eq_false_of_not_eq_true fun h => (exists_code_of_knownCode h).elim hunknown
    have htake : s.canTake = true := by
      rw [Nat.add_assoc] at hroom
      simp only [State.canTake, hphase, State.committed, State.owed, Config.takeLimit, decide_true, Bool.true_and]
      exact decide_eq_true hroom
    simp only [exec, execUnknownCommand, hlist, if_pos (And.intro htake hcode)]
    rfl
  · exact exec_rowOf_malformed hoffers hlen

/-! ### Frames that arrive (R169, R170) -/

theorem exec_mgmtFrameArrival_running {s : State} (h : s.phase = .running) (bytes : List Byte) :
    exec (.mgmtFrameArrival bytes) s = .next (s.uplinkBytes bytes) := if_pos h

/-- What the uplink makes of a frame that has ended, as the statements write it. -/
theorem State.uplinkEvent_eq (s : State) (ev : RxEvent) : s.uplinkEvent ev = uplinkTaken s ev := by
  cases ev with
  | overlong => rfl
  | frame cls payload check =>
    match payload with
    | [] => by_cases h1 : check = checkWord (checkedBytes cls []) <;> by_cases h2 : cls = classMgmt <;>
        simp [State.uplinkEvent, uplinkFrame, uplinkTaken, h1, h2]
    | [code] => by_cases h1 : check = checkWord (checkedBytes cls [code]) <;> by_cases h2 : cls = classMgmt <;>
        simp [State.uplinkEvent, uplinkFrame, uplinkTaken, h1, h2]
    | code :: tag :: args =>
      simp only [uplinkTaken, State.uplinkEvent, uplinkFrame]
      by_cases hcheck : check = checkWord (checkedBytes cls (code :: tag :: args))
      · by_cases hclass : cls = classMgmt
        · by_cases hroom : s.receiveList.length < 8
          · rw [if_neg (not_not.mpr hcheck), if_neg (not_not.mpr hclass), if_pos ⟨hcheck, hclass, hroom⟩]
            exact if_pos hroom
          · rw [if_neg (not_not.mpr hcheck), if_neg (not_not.mpr hclass), if_neg fun h => hroom h.2.2]
            exact if_neg hroom
        · rw [if_neg (not_not.mpr hcheck), if_pos hclass, if_neg fun h => hclass h.2.1]
      · rw [if_pos hcheck, if_neg fun h => hcheck h.1]

/-- Bytes that are one whole frame have that frame taken, and leave the receiver hunting. -/
theorem State.uplinkBytes_of_run {s : State} {bytes : List Byte} {ev : RxEvent} (hrx : s.uplinkRx = .hunting)
    (hrun : Receiver.hunting.run bytes = (.hunting, [ev])) : s.uplinkBytes bytes = uplinkTaken s ev := by
  have hsame : ({ s with uplinkRx := .hunting } : State) = s := by rw [← hrx]
  simp only [State.uplinkBytes, hrx, hrun, hsame, List.foldl_cons, List.foldl_nil, State.uplinkEvent_eq]

/-- Settles O31: one envelope is one frame to a hunting receiver, and the arrival checks decide what becomes of it. -/
theorem mgmtFrameJoinsReceiveList : Obligations.MgmtFrameJoinsReceiveList := by
  intro s hphase hrx
  refine ⟨fun cls payload check hlen => ?_, fun cls len hlen => ?_⟩
  · rw [exec_mgmtFrameArrival_running hphase, State.uplinkBytes_of_run hrx (Receiver.run_envelope cls payload check hlen)]
    match payload with
    | [] => rfl
    | [_] => rfl
    | _ :: _ :: _ => rfl
  · rw [exec_mgmtFrameArrival_running hphase, State.uplinkBytes_of_run hrx (Receiver.run_overlong cls len hlen)]
    rfl

end Sys2Proof.Machine
end

section
/-! The gate lanes (R11 to R24): the answer to a TAP, the endings of a transaction, and frames in whatever pieces they come. -/
namespace Sys2Proof.Machine
open Sys2Proof.Claims

/-! ### The answer to a TAP (R11) -/

theorem findTap_isSome (l : List Transaction) (tap : TapNumber) :
    (findTap l tap).isSome = l.any fun u => decide (u.tap = tap) := by
  rw [Bool.eq_iff_iff, findTap, List.find?_isSome, List.any_eq_true]

theorem LaneKind.places_eq (k : LaneKind) : k.places = if k = .standard then 1 else 2 := by
  cases k <;> rfl

/-- The rows of R11 in order. -/
theorem tapAnswer_eq (sv : ServiceState) (c : GateContext) (tap : TapNumber) :
    tapAnswer sv c tap =
      if sv = .config then some .notInService
      else if sv = .muster then some .muster
      else if c.state = .disabled ∨ c.state = .draining then some .gateClosed
      else if c.list.any (fun u => decide (u.tap = tap)) then some .busy
      else if (if c.config.lane = .standard then 1 else 2) ≤ c.list.length then some .busy
      else none := by
  cases sv with
  | config => rfl
  | muster => rfl
  | inService =>
    cases hstate : c.state <;> simp [tapAnswer, hstate, findTap_isSome, LaneKind.places_eq]

/-- Settles O32: the rows of R11 in order, once the payload is read. -/
theorem tapAnsweredByFirstRow : Obligations.TapAnsweredByFirstRow := by
  refine ⟨fun t => ⟨tapPayload_length t, by rw [← parseTap_eq_tapOf, parseTap_tapPayload]⟩, ?_⟩
  intro s g payload hphase hrx hlen t answer
  rw [exec_tap_running hphase, State.laneBytes_tap hrx hlen, State.tapArrives, tapAnswer_eq]
  simp only [← LaneKind.places_eq]
  split_ifs <;> rfl

/-! ### The endings of an awaiting transaction (R19, R20, R22) -/

/-- A sailing changed by nothing is the sailing. -/
theorem onSailingOf_id (s : State) (g : Gate) : onSailingOf s g (fun sl => sl) = s := by
  unfold onSailingOf
  cases s.gates[g].config.berth with
  | none => rfl
  | some b => simp only [Option.map_id', vector_set_self]

/-- The gate's berth acted on by a change of its sailing, as the statements write it. -/
theorem State.atBerthOf_onSailing (s : State) (g : Gate) (f : Sailing → Sailing) :
    s.atBerthOf g (fun s b => s.onSailing b f) = onSailingOf s g f := by
  unfold State.atBerthOf onSailingOf
  cases s.gates[g].config.berth <;> rfl

theorem State.atBerthOf_nothing (s : State) (g : Gate) : s.atBerthOf g (fun s _ => s) = s := by
  unfold State.atBerthOf
  cases s.gates[g].config.berth <;> rfl

theorem State.onSlot_eq (s : State) (k : Option SlotNo) (f : PassSlot → PassSlot) : s.onSlot k f = Claims.onSlot s k f := by
  cases k <;> rfl

theorem Sailing.released_eq (sl : Sailing) :
    sl.released = { sl with
      held := sl.held - 1
      alertArmed := decide (sl.boarded + (sl.held - 1) < sl.capacity) || sl.alertArmed } := by
  unfold Sailing.released Sailing.rearmed
  by_cases h : sl.boarded + (sl.held - 1) < sl.capacity
  · simp [h]
  · simp [h]

/-- An ending as a boarding, as the statements write it (R19). -/
theorem State.endBoarded_eq (s : State) (g : Gate) (t : Transaction) (a : Awaiting) :
    s.endBoarded g t a = boarded s g t a s.now := by
  unfold State.endBoarded boarded
  cases a.place with
  | passenger =>
    simp only [State.atBerthOf_onSailing, State.onSlot_eq]
    rfl
  | crew =>
    simp only [State.atBerthOf_onSailing, State.onSlot_eq]
    rfl
  | nothing =>
    simp only [State.atBerthOf_nothing, onSailingOf_id, State.onSlot_eq]
    rfl

/-- An ending without a boarding, as the statements write it (R20, R22). -/
theorem State.endNotBoarded_eq (s : State) (g : Gate) (t : Transaction) (a : Awaiting) (kind : TapKind) :
    s.endNotBoarded g t a kind = notBoarded s g t a kind s.now := by
  unfold State.endNotBoarded notBoarded
  cases a.place with
  | passenger =>
    simp only [State.atBerthOf_onSailing, State.onSlot_eq, funext Sailing.released_eq]
    rfl
  | crew =>
    simp only [State.atBerthOf_nothing, onSailingOf_id, State.onSlot_eq]
    rfl
  | nothing =>
    simp only [State.atBerthOf_nothing, onSailingOf_id, State.onSlot_eq]
    rfl

/-- The close that follows an ending, as the statements write it (R74). -/
theorem State.atBerthOf_closeIfEmpty (s : State) (g : Gate) :
    s.atBerthOf g State.closeIfEmpty = closedIfEmpty s g s.now := by
  unfold State.atBerthOf closedIfEmpty
  cases s.gates[g].config.berth with
  | none => rfl
  | some b =>
    simp only [State.closeIfEmpty]
    cases hsl : s.sailings[b] with
    | none => rfl
    | some sl => simp only [State.closeSailing_eq_closed hsl]

/-- The three reports that end an awaiting transaction, and the stray ones (R18, R23). -/
theorem State.passageArrives_eq (s : State) (g : Gate) (tap : TapNumber) (r : PassageResult) :
    s.passageArrives g tap r =
      match matchingAwaiting s.gates[g].list tap, r with
      | some (t, a), .passed => closedIfEmpty (boarded s g t a s.now) g s.now
      | some (t, a), .turnedBack => closedIfEmpty (notBoarded s g t a .notBoarded s.now) g s.now
      | some (t, a), .writeFailed => closedIfEmpty (notBoarded s g t a .writeFailed s.now) g s.now
      | some _, .unknown => s.strayReport g
      | none, _ => s.strayReport g := by
  unfold State.passageArrives
  simp only [State.endBoarded_eq, State.endNotBoarded_eq, State.atBerthOf_closeIfEmpty]
  rfl

theorem matchingAwaiting_of_find {l : List Transaction} {tap : TapNumber} {t : Transaction} {a : Awaiting}
    (hfind : findTap l tap = some t) (hstate : t.state = .awaiting a) : matchingAwaiting l tap = some (t, a) := by
  simp only [matchingAwaiting, hfind, Option.bind_some, Transaction.awaiting?, hstate, Option.map_some]

theorem find_of_matchingAwaiting {l : List Transaction} {tap : TapNumber} {t : Transaction} {a : Awaiting}
    (h : matchingAwaiting l tap = some (t, a)) : findTap l tap = some t ∧ t.state = .awaiting a := by
  obtain ⟨u, hfind, hmap⟩ := Option.bind_eq_some_iff.mp h
  obtain ⟨b, hawait, hpair⟩ := Option.map_eq_some_iff.mp hmap
  obtain ⟨rfl, rfl⟩ := Prod.mk.inj hpair
  refine ⟨hfind, ?_⟩
  unfold Transaction.awaiting? at hawait
  split at hawait
  · rename_i hstate
    rw [hstate, Option.some.inj hawait]
  · cases hawait

/-- Settles O34: the report or the expiry finds the transaction, and its ending is followed by the close it brings. -/
theorem awaitingTransactionEndings : Obligations.AwaitingTransactionEndings := by
  intro s g tap t a now hphase hclock hfind hstate
  have hmatch := matchingAwaiting_of_find hfind hstate
  have hnow : s.now = now := by simp only [State.now, hclock, Option.getD_some]
  refine ⟨fun hrx => ?_, ?_⟩
  · simp only [exec_passage_running hphase, State.laneBytes_passage hrx, State.passageArrives_eq, hmatch, hnow]
    exact ⟨rfl, rfl, rfl⟩
  · simp only [exec, execPassageWindowExpiry, hmatch, if_pos hphase, State.endNotBoarded_eq, State.atBerthOf_closeIfEmpty]
    rw [← hnow]
    rfl

/-- Settles O35: no awaiting transaction is found, or the result is none of the three. -/
theorem strayReportsAreCounted : Obligations.StrayReportsAreCounted := by
  intro s g tap code hphase hrx hstray
  have hcount : s.passageArrives g tap (passageResult code) = s.strayReport g := by
    rw [State.passageArrives_eq]
    cases hmatch : matchingAwaiting s.gates[g].list tap with
    | none => rfl
    | some p =>
      obtain ⟨t, a⟩ := p
      obtain ⟨hfind, hstate⟩ := find_of_matchingAwaiting hmatch
      have hunknown : passageResult code = .unknown := by
        have hcode (n : Byte) (h : code = n) : n = 0 ∨ 3 < n.toNat := by
          subst h
          exact hstray.imp_right fun h => h.resolve_right fun h => h t hfind a hstate
        unfold passageResult
        rw [if_neg fun h => absurd (hcode 1 h) (by decide), if_neg fun h => absurd (hcode 2 h) (by decide),
          if_neg fun h => absurd (hcode 3 h) (by decide)]
      rw [hunknown]
  rw [exec_passage_running hphase, State.laneBytes_passage hrx, hcount]
  rfl

/-- Settles O36: the transaction found PENDING leaves and is answered, in either order. -/
theorem tapWaitExpiryAnswersRetry : Obligations.TapWaitExpiryAnswersRetry := by
  intro s g tap t w hphase hfind hstate
  have hwaiting : waitingTap s.gates[g].list tap = some (t, w) := by
    simp only [waitingTap, hfind, Option.bind_some, hstate]
  simp only [exec, execTapWaitExpiry, hwaiting, if_pos hphase]
  rfl

/-! ### Frames in whatever pieces they come (R181) -/

/-- A hunting receiver passes over every byte that is no start mark. -/
theorem Receiver.run_noise (noise rest : List Byte) (h : ∀ b ∈ noise, b ≠ 0xA5) :
    Receiver.hunting.run (noise ++ rest) = Receiver.hunting.run rest := by
  induction noise with
  | nil => rfl
  | cons b noise ih =>
    obtain ⟨hb, hnoise⟩ := List.forall_mem_cons.mp h
    have hstep : Receiver.hunting.step b = (.hunting, none) := if_neg hb
    rw [List.cons_append, Receiver.run_cons, hstep, ih hnoise]
    rfl

theorem frameBytes_eq_checked (cls : Byte) (payload : List Byte) : frameBytes cls payload = checked cls payload := by
  rw [frameBytes, beBytes_eq_num]
  rfl

/-- What a lane makes of a frame that has ended, as the statements write it. -/
theorem State.laneEvent_eq_laneTaken (g : Gate) (s : State) (ev : RxEvent) : State.laneEvent g s ev = laneTaken g s ev := by
  cases ev with
  | overlong => rfl
  | frame cls payload check =>
    simp only [laneTaken]
    split_ifs with htap hpassage
    · obtain ⟨hcheck, rfl, hlen⟩ := htap
      subst hcheck
      rw [← parseTap_eq_tapOf]
      simp only [State.laneEvent]
      rw [show laneFrame (.frame 0x10 payload (checkWord (0x10 :: BitVec.ofNat 8 payload.length :: payload))) =
        .tap (parseTap payload) from laneFrame_tap hlen]
    · obtain ⟨hcheck, rfl, hlen⟩ := hpassage
      subst hcheck
      simp only [State.laneEvent]
      rw [show laneFrame (.frame 0x11 payload (checkWord (0x11 :: BitVec.ofNat 8 payload.length :: payload))) =
        .passage (field16 payload 0) (passageResult (fieldByte payload 2)) from laneFrame_passage hlen]
      simp only [field16, fieldByte, fieldNat_eq_field]
    · refine State.laneEvent_bad ((laneFrame_bad_iff cls payload check).mpr ?_)
      by_cases hcheck : check = checkWord (checkedBytes cls payload)
      · have h10 : cls = 0x10 → payload.length ≠ 26 := fun h hlen => htap ⟨hcheck, h, hlen⟩
        have h11 : cls = 0x11 → payload.length ≠ 3 := fun h hlen => hpassage ⟨hcheck, h, hlen⟩
        tauto
      · exact .inl hcheck

/-- The close after an ending does not look at the receivers. -/
theorem closedIfEmpty_laneRx (s : State) (rx : Vector Receiver 16) (g : Gate) (now : ServiceTime) :
    closedIfEmpty { s with laneRx := rx } g now = { closedIfEmpty s g now with laneRx := rx } := by
  unfold closedIfEmpty
  dsimp only
  split
  · rfl
  · split
    · rfl
    · split <;> rfl

/-- What a TAP does, does not depend on the receivers. -/
theorem State.tapArrives_laneRx (s : State) (rx : Vector Receiver 16) (g : Gate) (t : TapFrame) :
    State.tapArrives { s with laneRx := rx } g t = { s.tapArrives g t with laneRx := rx } := by
  unfold State.tapArrives
  dsimp only
  split <;> rfl

/-- What a PASSAGE does, does not depend on the receivers. -/
theorem State.passageArrives_laneRx (s : State) (rx : Vector Receiver 16) (g : Gate) (tap : TapNumber) (r : PassageResult) :
    State.passageArrives { s with laneRx := rx } g tap r = { s.passageArrives g tap r with laneRx := rx } := by
  simp only [State.passageArrives_eq]
  split
  · exact closedIfEmpty_laneRx (boarded s g _ _ s.now) rx g s.now
  · exact closedIfEmpty_laneRx (notBoarded s g _ _ .notBoarded s.now) rx g s.now
  · exact closedIfEmpty_laneRx (notBoarded s g _ _ .writeFailed s.now) rx g s.now
  · rfl
  · rfl

/-- Settles O51: the receiver reads an envelope whole from hunting, and its bytes in two arrivals as in one. -/
theorem receiverReadsEveryFrame : Obligations.ReceiverReadsEveryFrame := by
  refine ⟨Receiver.run_noise, fun cls payload check rest hlen => ?_, fun cls len rest hlen => ?_, Receiver.run_append,
    frameBytes_eq_checked, by decide +kernel, fun t => ?_, fun s g bytes hphase => ?_, fun s bytes hphase => ?_,
    fun s rx g => ⟨s.tapArrives_laneRx rx g, s.passageArrives_laneRx rx g⟩⟩
  · rw [Receiver.run_append, Receiver.run_envelope cls payload check hlen]
    rfl
  · rw [Receiver.run_append, Receiver.run_overlong cls len hlen]
    rfl
  · rw [laneFrame_tap (tapPayload_length t), parseTap_tapPayload]
  · have htaken : State.laneEvent g = laneTaken g := funext fun s => funext fun ev => State.laneEvent_eq_laneTaken g s ev
    rw [exec_tap_running hphase, exec_passage_running hphase, State.laneBytes, htaken]
    exact ⟨rfl, rfl⟩
  · have htaken : State.uplinkEvent = uplinkTaken := funext fun s => funext fun ev => s.uplinkEvent_eq ev
    rw [exec_mgmtFrameArrival_running hphase, State.uplinkBytes, htaken]

end Sys2Proof.Machine
end

section
/-! The arbiter (R28 to R31): the gate that wins, and what a grant makes of the part. -/
namespace Sys2Proof.Machine
open Sys2Proof.Claims

/-! ### The rotation and the highest priority (R29) -/

/-- The i-th gate of the rotation comes at turn i. -/
theorem turn_rotation (s : State) (i : Fin 16) : turn s (s.lastGranted + 1 + i) = i.val := by
  have h := s.lastGranted.isLt
  have hi := i.isLt
  simp only [turn, Fin.val_add, Fin.val_one]
  omega

theorem mem_rotation (last g : Gate) : g ∈ rotation last :=
  List.mem_map.mpr ⟨g - (last + 1), List.mem_finRange _, add_sub_cancel _ _⟩

/-- The rotation lists the gates by their turn. -/
theorem rotation_pairwise (s : State) : (rotation s.lastGranted).Pairwise fun g g' => turn s g < turn s g' := by
  rw [rotation, List.pairwise_map]
  refine (List.pairwise_lt_finRange 16).imp fun {i j} hij => ?_
  rw [turn_rotation, turn_rotation]
  exact hij

/-- A running maximum is within a bound when all it has met are. -/
theorem foldl_max_le_iff {ι α : Type} [LinearOrder α] (f : ι → α) (l : List ι) (m x : α) :
    l.foldl (fun m i => max m (f i)) m ≤ x ↔ m ≤ x ∧ ∀ i ∈ l, f i ≤ x := by
  induction l generalizing m with
  | nil => simp
  | cons i l ih => rw [List.foldl_cons, ih, max_le_iff, List.forall_mem_cons, and_assoc]

/-! ### The gate and the transaction chosen (R28, R29) -/

theorem State.hasEligible_iff (s : State) (g : Gate) :
    s.hasEligible g = true ↔ s.gates[g].state = .active ∧ ∃ t ∈ s.gates[g].list, t.isPending = true := by
  rw [State.hasEligible, Bool.and_eq_true, decide_eq_true_iff, List.any_eq_true]

theorem State.canReserve_iff (s : State) : s.canReserve = true ↔ s.written.length + s.reserved < 256 := decide_eq_true_iff

theorem State.grantsOpen_iff (s : State) :
    s.grantsOpen = true ↔ s.phase = .running ∧ s.service = .inService ∧ s.engine = none ∧ s.waitingActivation = none
      ∧ s.written.length + s.reserved < 256 := by
  simp only [State.grantsOpen, State.engineBusy, State.canReserve_iff, Bool.and_eq_true, decide_eq_true_iff,
    Bool.not_eq_true', Option.isSome_eq_false_iff, Option.isNone_iff_eq_none, and_assoc]

/-- The gate chosen holds a PENDING transaction and is ACTIVE. -/
theorem State.hasEligible_of_arbiterChoice {s : State} {g : Gate} (h : s.arbiterChoice = some g) : s.hasEligible g = true :=
  (List.mem_filter.mp (List.mem_of_find?_eq_some h)).2

/-- What the arbiter would grant is PENDING at an ACTIVE gate. -/
theorem State.pending_of_arbiterGrant {s : State} {g : Gate} {t : Transaction} (h : s.arbiterGrant = some (g, t)) :
    s.gates[g].state = .active ∧ t ∈ s.gates[g].list ∧ t.isPending = true := by
  obtain ⟨g', hchoice, hmap⟩ := Option.bind_eq_some_iff.mp h
  obtain ⟨t', hfind, hpair⟩ := Option.map_eq_some_iff.mp hmap
  obtain ⟨rfl, rfl⟩ := Prod.mk.inj hpair
  exact ⟨((s.hasEligible_iff g').mp (State.hasEligible_of_arbiterChoice hchoice)).1, List.mem_of_find?_eq_some hfind,
    List.find?_some hfind⟩

/-- The gate that no other beats, by priority and then by turn, is the one chosen (R29). -/
theorem State.arbiterChoice_of_best {s : State} {g : Gate} (hg : s.hasEligible g = true)
    (hbest : ∀ g', s.hasEligible g' = true → s.gates[g'].config.priority < s.gates[g].config.priority
      ∨ (s.gates[g'].config.priority = s.gates[g].config.priority ∧ turn s g ≤ turn s g')) :
    s.arbiterChoice = some g := by
  have hmem : g ∈ (rotation s.lastGranted).filter s.hasEligible := List.mem_filter.mpr ⟨mem_rotation _ g, hg⟩
  have htop : ((rotation s.lastGranted).filter s.hasEligible).foldl (fun m g => max m s.gates[g].config.priority) 0 =
      s.gates[g].config.priority := by
    refine le_antisymm ((foldl_max_le_iff _ _ _ _).mpr ⟨Fin.zero_le _, fun g' hg' => ?_⟩)
      (((foldl_max_le_iff (fun g : Gate => s.gates[g].config.priority) _ _ _).mp le_rfl).2 g hmem)
    exact (hbest g' (List.mem_filter.mp hg').2).elim le_of_lt fun h => h.1.le
  obtain ⟨as, bs, hsplit⟩ := List.append_of_mem hmem
  have hsorted := (rotation_pairwise s).filter s.hasEligible
  rw [hsplit, List.pairwise_append] at hsorted
  rw [State.arbiterChoice, htop, List.find?_eq_some_iff_append]
  refine ⟨decide_eq_true rfl, as, bs, hsplit, fun a ha => ?_⟩
  have hearlier : turn s a < turn s g := hsorted.2.2 a ha g List.mem_cons_self
  have heligible : s.hasEligible a = true :=
    (List.mem_filter.mp (hsplit ▸ List.mem_append_left (g :: bs) ha)).2
  simp only [Bool.not_eq_true', decide_eq_false_iff_not]
  intro hsame
  rcases hbest a heligible with hlower | ⟨-, hlater⟩
  · exact absurd hsame hlower.ne
  · omega

/-- A list each of whose items is left alone stays the list. -/
theorem map_eq_self {α : Type} {f : α → α} {l : List α} (h : ∀ x ∈ l, f x = x) : l.map f = l :=
  (List.map_congr_left h).trans l.map_id

/-- In a list of distinct tap numbers a change by tap number is a change of that one transaction. -/
theorem map_update_of_nodup {before after : List Transaction} {t : Transaction} (f : Transaction → Transaction)
    (hnodup : ((before ++ t :: after).map (·.tap)).Nodup) :
    (before ++ t :: after).map (fun u => if u.tap = t.tap then f u else u) = before ++ f t :: after := by
  rw [List.map_append, List.map_cons, List.nodup_append, List.nodup_cons] at hnodup
  obtain ⟨-, ⟨hafter, -⟩, hbefore⟩ := hnodup
  have hother (l : List Transaction) (hl : ∀ u ∈ l, u.tap ≠ t.tap) : l.map (fun u => if u.tap = t.tap then f u else u) = l :=
    map_eq_self fun u hu => if_neg (hl u hu)
  rw [List.map_append, List.map_cons, if_pos rfl, hother before fun u hu => ?_, hother after fun u hu htap => ?_]
  · exact hafter (List.mem_map.mpr ⟨u, hu, htap⟩)
  · exact hbefore u.tap (List.mem_map_of_mem hu) t.tap List.mem_cons_self

/-- Settles O37: the winner is chosen whatever else is eligible, and what is chosen is eligible. -/
theorem grantTakesTheWinner : Obligations.GrantTakesTheWinner := by
  refine fun s hphase => ⟨fun g t before after bank now hlist hbefore hnodup heligible hbest hbank hclock => ?_, fun hnone => ?_⟩
  · obtain ⟨hmem, hpending, hactive, hservice, hengine, hwaiting, hroom⟩ := heligible
    have hopen : s.grantsOpen = true := s.grantsOpen_iff.mpr ⟨hphase, hservice, hengine, hwaiting, hroom⟩
    have hchoice : s.arbiterChoice = some g := by
      refine State.arbiterChoice_of_best ((s.hasEligible_iff g).mpr ⟨hactive, t, hmem, hpending⟩) fun g' hg' => ?_
      obtain ⟨hactive', t', hmem', hpending'⟩ := (s.hasEligible_iff g').mp hg'
      exact hbest g' t' ⟨hmem', hpending', hactive', hservice, hengine, hwaiting, hroom⟩
    have holdest : s.gates[g].list.find? Transaction.isPending = some t := by
      rw [hlist, List.find?_eq_some_iff_append]
      exact ⟨hpending, before, after, rfl, fun u hu => by rw [hbefore u hu]; rfl⟩
    have hgrant : s.arbiterGrant = some (g, t) := by
      rw [State.arbiterGrant, hchoice, Option.bind_some, holdest, Option.map_some]
    have hnow : s.now = now := by simp only [State.now, hclock, Option.getD_some]
    have hupdate := map_update_of_nodup Transaction.granted (hlist ▸ hnodup)
    simp only [exec, execGrant, hgrant, if_pos hopen, State.grantTo, State.reserveSlot_eq_reserved, State.updateTx,
      State.setGate, hlist, hupdate, newDecision, hbank, hnow]
    rfl
  · simp only [exec, execGrant]
    split
    · rename_i g t hgrant
      split
      · rename_i hopen
        obtain ⟨hactive, hmem, hpending⟩ := State.pending_of_arbiterGrant hgrant
        obtain ⟨-, hrest⟩ := s.grantsOpen_iff.mp hopen
        exact absurd ⟨hmem, hpending, hactive, hrest⟩ (hnone g t)
      · rfl
    · rfl

end Sys2Proof.Machine
end

section
/-! Pricing (R84 to R99): the formulas, their bounds, and what stage 7 makes of a decision. -/
namespace Sys2Proof.Machine
open Sys2Proof.Claims

/-! ### The demand curve (R84 to R88) -/

/-- The factor of the segment that applies, as one formula (R86, R87). -/
theorem curveFactor_eq_factorAt (e : Option CurveEntry) (o : Nat) : curveFactor e o = factorAt e o := by
  cases e with
  | none => rfl
  | some e =>
    simp only [curveFactor, curveSegment, factorAt]
    split_ifs <;> rfl

theorem curveFactor_le (e : Option CurveEntry) (o : Nat) : curveFactor e o ≤ 511 := by
  cases e with
  | none => simp [curveFactor]
  | some e => exact min_le_left _ _

/-- Settles O48: the index is a quotient, and within a segment the factor rises with it. -/
theorem curveFactorByFormula : Obligations.CurveFactorByFormula := by
  refine ⟨fun n c hroom => ⟨?_, Nat.div_mul_le_self _ _, ?_⟩, fun e o => ⟨curveFactor_eq_factorAt e o, curveFactor_le e o⟩,
    fun e o o' hle hsegment _ => ?_⟩
  · exact Nat.div_lt_of_lt_mul (by omega)
  · rw [mul_comm (_ + 1)]
    exact Nat.lt_mul_div_succ _ (by omega)
  · simp only [curveFactor, ← hsegment]
    gcongr

/-! ### Fare value and credit (R89 to R95) -/

theorem getD_none_eq_join {α : Type} (o : Option (Option α)) : o.getD none = o.join := by
  cases o <;> rfl

/-- Stages 1 to 4 of pricing as one formula (R82, R84 to R93). -/
theorem priceTap_eq_fareOf (bank : Bank) (band : BandEntry) (occ : Occupancy) (concession : Byte) :
    priceTap bank band occ concession =
      fareOf band bank.curves[band.curve] ((bank.concessions[concession.toNat]?).join) occ.occupied occ.capacity := by
  simp only [priceTap, getD_none_eq_join, curveFactor_eq_factorAt]
  rfl

/-- The checks of the transfer credit as one condition (R94). -/
theorem transferCredit_storedValue (last : Option LastBoarding) (line : LineCode) (band : BandEntry) (now : ServiceTime) :
    transferCredit .storedValue last line band now = creditOf band line last now := by
  cases last with
  | none => rfl
  | some b =>
    have helapsed : elapsed now b.time = secondsSince now ⟨b.day.toNat, b.second.toNat⟩ := rfl
    simp only [transferCredit, creditOf, helapsed, ne_eq, not_true_eq_false, if_false]
    split_ifs <;> omega

theorem transferCredit_pass {kind : ProductKind} (h : kind ≠ .storedValue) (last : Option LastBoarding) (line : LineCode)
    (band : BandEntry) (now : ServiceTime) : transferCredit kind last line band now = 0 := if_pos h

theorem transferCredit_le (kind : ProductKind) (last : Option LastBoarding) (line : LineCode) (band : BandEntry)
    (now : ServiceTime) : transferCredit kind last line band now ≤ band.cap := by
  unfold transferCredit
  split
  · exact Nat.zero_le _
  · split
    · exact Nat.zero_le _
    · split_ifs
      · exact Nat.zero_le _
      · exact Nat.zero_le _
      · exact Nat.zero_le _
      · exact min_le_right _ _

/-- A fare value is 0 for an exempt class, and within the band for every other (R90 to R93). -/
theorem fareValue_bounds {band : BandEntry} (hband : band.floor ≤ band.ceiling) (adjusted : Nat) (factor : Option Nat) :
    (factor = some 0 → fareValue band adjusted factor = 0)
      ∧ (factor ≠ some 0 → band.floor ≤ fareValue band adjusted factor ∧ fareValue band adjusted factor ≤ band.ceiling) := by
  refine ⟨fun hexempt => by simp [fareValue, hexempt], fun hpaying => ?_⟩
  have hfactor : factor.getD 256 ≠ 0 := by
    cases factor with
    | none => decide
    | some q => exact fun hq => hpaying (congrArg some hq)
  simp only [fareValue, if_neg hfactor, clampFare]
  split_ifs <;> omega

/-! ### Stage 7 (R38, R97 to R99) -/

/-- Stage 7 of a stored-value card: the net fare is charged, or the purse does not pay it. -/
theorem fareStage_storedValue (bank : Bank) (band : BandEntry) (occ : Occupancy) (line : LineCode) (overdraft : Nat)
    (d : Decision) (c : CardData) :
    fareStage bank band occ line .storedValue overdraft d c =
      let v := priceTap bank band occ c.concession
      let t := transferCredit .storedValue c.lastBoarding line band d.time
      if -(overdraft : Int) ≤ c.balance.toInt - ((v - t : Nat) : Int) then
        { d with fareValue := v, credit := t, charged := v - t, newBalance := some (c.balance.toInt - ((v - t : Nat) : Int)),
                 stage := .verdict }
      else refused { d with fareValue := v, credit := t, newBalance := some c.balance.toInt } .lowBalance := by
  simp only [fareStage, pursePays, decide_eq_true_eq]
  rfl

/-- Stage 7 of a pass: a price, nothing charged. -/
theorem fareStage_pass (bank : Bank) (band : BandEntry) (occ : Occupancy) (line : LineCode) {kind : ProductKind}
    (hkind : kind ≠ .storedValue) (overdraft : Nat) (d : Decision) (c : CardData) :
    fareStage bank band occ line kind overdraft d c =
      { d with fareValue := priceTap bank band occ c.concession, credit := 0, stage := .verdict } := by
  have hcredit := transferCredit_pass hkind c.lastBoarding line band d.time
  cases kind with
  | storedValue => exact absurd rfl hkind
  | periodPass => simp only [fareStage, hcredit]
  | cappedPass => simp only [fareStage, hcredit]

/-- Settles O50: the fare value is clamped into its band, and the charge is what of it the credit leaves. -/
theorem faresStayWithinBand : Obligations.FaresStayWithinBand := by
  intro bank band o line kind overdraft d c hband hcharged hrefusal r exempt
  have hprice : priceTap bank band o c.concession ≤ band.ceiling ∧ (exempt → priceTap bank band o c.concession = 0)
      ∧ (¬ exempt → band.floor ≤ priceTap bank band o c.concession) := by
    obtain ⟨hfree, hpaid⟩ := fareValue_bounds hband
      (adjustedFare band.base (curveFactor bank.curves[band.curve] (occupancyIndex o.occupied o.capacity)))
      ((bank.concessions[c.concession.toNat]?).join)
    simp only [priceTap, getD_none_eq_join]
    by_cases hexempt : exempt
    · exact ⟨(hfree hexempt).trans_le (Nat.zero_le _), fun _ => hfree hexempt, fun h => absurd hexempt h⟩
    · exact ⟨(hpaid hexempt).2, fun h => absurd h hexempt, fun _ => (hpaid hexempt).1⟩
  obtain ⟨hceiling, hfree, hfloor⟩ := hprice
  by_cases hkind : kind = .storedValue
  · subst hkind
    have hcredit := transferCredit_le .storedValue c.lastBoarding line band d.time
    have hr := fareStage_storedValue bank band o line overdraft d c
    dsimp only at hr
    split at hr
    · rename_i hpays
      simp only [r, hr]
      exact ⟨hfree, fun h => ⟨hfloor h, hceiling⟩, Nat.sub_le _ _, (Nat.sub_le _ _).trans hceiling, hcredit,
        fun h => absurd rfl h, fun _ _ => ⟨_, rfl, hpays, rfl⟩⟩
    · simp only [r, hr, refused, hcharged]
      exact ⟨hfree, fun h => ⟨hfloor h, hceiling⟩, Nat.zero_le _, Nat.zero_le _, hcredit, fun h => absurd rfl h,
        fun _ h => nomatch h⟩
  · simp only [r, fareStage_pass bank band o line hkind, hcharged, hrefusal]
    exact ⟨hfree, fun h => ⟨hfloor h, hceiling⟩, Nat.zero_le _, Nat.zero_le _, Nat.zero_le _,
      fun _ => ⟨trivial, trivial, trivial⟩, fun h => absurd h hkind⟩

/-- Settles O43: the inputs found before give price, credit and purse check. -/
theorem fareStagePricesTap : Obligations.FareStagePricesTap := by
  intro s d t f band kind o hdeciding hfound hband hkind hoccupancy v c after
  have hbind : (d.found.bind fun f => (s.bank d.bank).bands[f.line]) = some band := by rw [hfound, Option.bind_some, hband]
  have hstage : exec .fareStage s =
      .next (Claims.deciding s (fareStage (s.bank d.bank) band o f.line kind s.params.overdraft d t.card)) := by
    simp only [exec, execFareStage, State.atStage_of_deciding hdeciding, hfound, hkind, hoccupancy, Option.bind_some, hband]
    rfl
  rw [hstage]
  by_cases hstored : kind = .storedValue
  · rw [if_pos hstored, hstored, fareStage_storedValue]
    simp only [transferCredit_storedValue, priceTap_eq_fareOf]
    rfl
  · rw [if_neg hstored, fareStage_pass _ _ _ _ hstored, priceTap_eq_fareOf]

end Sys2Proof.Machine
end

section
/-! Stages 1 to 6 of a decision (R32 to R37, R108): what each makes of the decision in progress. -/
namespace Sys2Proof.Machine
open Sys2Proof.Claims

/-! ### Stages 1 and 2 (R32, R33) -/

theorem exec_sailingStage_of_deciding {s : State} {d : Decision} {t : Transaction} (h : s.deciding .sailing d t) :
    exec .sailingStage s = .next (Claims.deciding s (sailingStage s d)) := by
  simp only [exec, execSailingStage, State.atStage_of_deciding h]
  rfl

theorem exec_cardDataStage_of_deciding {s : State} {d : Decision} {t : Transaction} (h : s.deciding .cardData d t) :
    exec .cardDataStage s = .next (Claims.deciding s (cardDataStage d t.card)) := by
  simp only [exec, execCardDataStage, State.atStage_of_deciding h]
  rfl

theorem LastBoarding.inRange_eq_false_iff (b : LastBoarding) :
    b.inRange = false ↔ 86400 ≤ b.second.toNat ∨ 31 < b.line.toNat ∨ 9999 < b.farePaid.toNat := by
  rw [LastBoarding.inRange, decide_eq_false_iff_not]
  omega

/-- The one check of stage 2 fails exactly when a value is out of range (R33). -/
theorem CardData.inRange_eq_false_iff (c : CardData) : c.inRange = false ↔ OutOfRange c := by
  have hlast : (match c.lastBoarding with
      | some b => b.inRange
      | none => true) = false ↔
      ∃ b, c.lastBoarding = some b ∧ (86400 ≤ b.second.toNat ∨ 31 < b.line.toNat ∨ 9999 < b.farePaid.toNat) := by
    cases c.lastBoarding with
    | none => simp
    | some b => simp [LastBoarding.inRange_eq_false_iff]
  rw [CardData.inRange, Bool.and_eq_false_iff, decide_eq_false_iff_not, OutOfRange]
  refine (or_congr_right hlast).trans ?_
  by_cases hmedia : c.media = 0
  · simp [hmedia]
  · by_cases hissuer : c.issuer = 255
    · simp [hissuer]
    · simp only [hmedia, hissuer, ne_eq, not_false_eq_true, true_and, false_or, ← or_assoc]
      refine or_congr_left ?_
      omega

/-- Settles O38: stage 1 by what stands at the gate's berth, stage 2 by the ranges. -/
theorem firstStagesFindSailingAndCheckCard : Obligations.FirstStagesFindSailingAndCheckCard := by
  intro s d t
  refine ⟨fun hdeciding => ?_, fun hdeciding => ?_⟩
  · rw [exec_sailingStage_of_deciding hdeciding, sailingStage]
    refine ⟨fun hnone => ?_, fun b hberth => ?_⟩
    · simp only [hnone]
      rfl
    · simp only [hberth]
      refine ⟨fun hclosed => ?_, fun sl hsl => ⟨fun hboarding => ?_, fun hclosing => ?_⟩⟩
      · simp only [hclosed]
        rfl
      · simp only [hsl, hboarding]
      · simp only [hsl, hclosing]
        rfl
  · rw [exec_cardDataStage_of_deciding hdeciding, cardDataStage, ← CardData.inRange_eq_false_iff, Bool.not_eq_false]
    exact ⟨fun h => by rw [h]; rfl, fun h => by rw [if_pos h]⟩

/-! ### Stage 3 (R34, R49 to R54) -/

/-- What the search makes of one entry. -/
theorem searchFilters_eq_some {filters : Vector (Option FilterRule) 128} {m : Media} {issuer : Byte} {i : FilterIndex}
    {r : FilterRule} (hentry : filters[i] = some r) (hmatch : EntryMatches (some r) m issuer)
    (hfirst : ∀ j, j < i → ¬ EntryMatches filters[j] m issuer) : searchFilters filters m issuer = some (i, r) := by
  obtain ⟨as, bs, hsplit⟩ := List.append_of_mem (List.mem_finRange i)
  have hsorted := List.pairwise_lt_finRange 128
  rw [hsplit, List.pairwise_append] at hsorted
  rw [searchFilters, List.findSome?_eq_some_iff]
  refine ⟨as, i, bs, hsplit, ?_, fun j hj => ?_⟩
  · rw [hentry]
    exact if_pos ((filterEntryMatchesByTable (some r) m issuer).mpr hmatch)
  · have hno := hfirst j (hsorted.2.2 j hj i List.mem_cons_self)
    rw [← filterEntryMatchesByTable] at hno
    cases hj : filters[j] with
    | none => rfl
    | some q =>
      rw [hj] at hno
      exact if_neg hno

theorem searchFilters_eq_none {filters : Vector (Option FilterRule) 128} {m : Media} {issuer : Byte}
    (h : ∀ j : FilterIndex, ¬ EntryMatches filters[j] m issuer) : searchFilters filters m issuer = none := by
  rw [searchFilters, List.findSome?_eq_none_iff]
  intro j _
  have hno := h j
  rw [← filterEntryMatchesByTable] at hno
  cases hj : filters[j] with
  | none => rfl
  | some q =>
    rw [hj] at hno
    exact if_neg hno

/-- The search ends where the statements say (R49). -/
theorem searchFilters_of_endsAt {filters : Vector (Option FilterRule) 128} {m : Media} {issuer : Byte}
    {found : Option (FilterIndex × FilterRule)} (h : SearchEndsAt filters m issuer found) :
    searchFilters filters m issuer = found := by
  match found, h with
  | none, h => exact searchFilters_eq_none h
  | some (i, r), ⟨hentry, hmatch, hfirst⟩ => exact searchFilters_eq_some hentry hmatch hfirst

/-- A priority match replaces the record of the last one and raises its alert (R57, R58). -/
theorem State.priorityMatched_eq (s : State) (m : PriorityMatch) :
    s.priorityMatched m = alerted { s with lastPriority := some m } s.masks.priorityMatch (.priorityMatch m) :=
  State.alert_eq_alerted _ _ _

/-- Settles O39: the search ends at the first match, whose action is taken before the waiting writes. -/
theorem filterStageActsByFirstMatch : Obligations.FilterStageActsByFirstMatch := by
  refine fun s d t => ⟨fun hdeciding => ?_, fun found hdeciding hsearch => ?_⟩
  · simp only [exec, execFilterSearch, State.atStage_of_deciding hdeciding]
    rfl
  · simp only [exec, execFilterSearchComplete, State.atStage_of_deciding hdeciding, State.searchEnds,
      searchFilters_of_endsAt hsearch, State.applyWrites_eq, State.priorityMatched_eq]
    rcases found with _ | ⟨i, r⟩
    · dsimp only
      cases s.params.defaultAction <;> rfl
    · dsimp only
      cases r.action <;> rfl

/-! ### Stages 4 and 5 (R35, R36, R73) -/

theorem exec_productStage_of_deciding {s : State} {d : Decision} {t : Transaction} (h : s.deciding .product d t) :
    exec .productStage s = .next (Claims.deciding s (productStage (s.bank d.bank) d t.card)) := by
  simp only [exec, execProductStage, State.atStage_of_deciding h]
  rfl

/-- Stage 5 of a decision whose sailing has closed goes on with a free reading (log 7). -/
theorem exec_capacityStage_of_closed {s : State} {d : Decision} {t : Transaction} (h : s.deciding .capacity d t)
    (hchange : d.change = .closed) :
    exec .capacityStage s =
      .next (Claims.deciding { s with freeCount := s.freeCount + 1 } (capacityStage d (freeOccupancy s.freeCount))) := by
  have hleft : ¬ d.change = .left := by simp [hchange]
  simp only [exec, execCapacityStage, State.atStage_of_deciding h, if_neg hleft, State.occupancyOf, if_pos hchange]
  rfl

/-- Stage 5 of a decision whose sailing stands reads its counts (R36). -/
theorem exec_capacityStage_of_unchanged {s : State} {d : Decision} {t : Transaction} {f : SailingFound} {sl : Sailing}
    (h : s.deciding .capacity d t) (hchange : d.change = .unchanged) (hfound : d.found = some f)
    (hsl : s.sailings[f.berth] = some sl) :
    exec .capacityStage s = .next (Claims.deciding s (capacityStage d ⟨sl.boarded + sl.held, sl.capacity⟩)) := by
  have hleft : ¬ d.change = .left := by simp [hchange]
  have hclosed : ¬ d.change = .closed := by simp [hchange]
  simp only [exec, execCapacityStage, State.atStage_of_deciding h, if_neg hleft, State.occupancyOf, if_neg hclosed, hfound,
    Option.bind_some, hsl, Option.map_some]
  rfl

/-- Settles O40: stage 4 by product and band, stage 5 by what has become of the sailing. -/
theorem productAndCapacityStages : Obligations.ProductAndCapacityStages := by
  refine fun s d t f hfound => ⟨fun hdeciding => ?_, fun hdeciding hchange => ?_, fun sl hdeciding hsl hchange => ?_⟩
  · rw [exec_productStage_of_deciding hdeciding]
    simp only [productStage, Bank.product_eq_join, hfound, Option.bind_some]
    refine ⟨fun hnone => ?_, fun e he => ?_⟩
    · simp only [hnone]
      rfl
    · simp only [he]
      refine ⟨fun hnone => ?_, fun hsome => ?_⟩
      · simp only [hnone]
        rfl
      · obtain ⟨band, hband⟩ := Option.ne_none_iff_exists'.mp hsome
        simp only [hband]
  · simp only [exec, execCapacityStage, State.atStage_of_deciding hdeciding, if_pos hchange]
    rfl
  · rw [exec_capacityStage_of_unchanged hdeciding hchange hfound hsl, capacityStage]
    exact ⟨fun hroom => by rw [if_pos hroom], fun hfull => by rw [if_neg (Nat.not_lt.mpr hfull)]; rfl⟩

/-- A free reading leaves room on a sailing of at most 999 places (R82). -/
theorem freeOccupancy_bounds (n : Nat) :
    (freeOccupancy n).occupied < (freeOccupancy n).capacity ∧ (freeOccupancy n).capacity ≤ 999 := by
  have hcapacity : Config.closedCapacity n % 999 < 999 := Nat.mod_lt _ (by decide)
  exact ⟨Nat.mod_lt _ (by omega), by simp only [freeOccupancy]; omega⟩

/-- Settles O41: the free reading has room, whatever the free value. -/
theorem capacityStageAfterCloseGoesOn : Obligations.CapacityStageAfterCloseGoesOn := by
  intro s d t hdeciding hchange
  obtain ⟨hroom, hmost⟩ := freeOccupancy_bounds s.freeCount
  refine ⟨freeOccupancy s.freeCount, hroom, hmost, ?_⟩
  rw [exec_capacityStage_of_closed hdeciding hchange, capacityStage, if_pos hroom]
  rfl

/-! ### Stage 6 (R37, R108) -/

/-- The slot checks of R108 and R109 in order, on a slot that matches the card. -/
theorem slotRefusal_eq (p : PassSlot) (now : ServiceTime) (interval : Nat) :
    slotRefusal p now interval =
      if p.inFlight = true then some .passback
      else if p.lastUse.any fun u => decide (secondsSince now u < interval) then some .passback
      else if p.uses = p.limit then some .passUsedUp
      else none := by
  unfold slotRefusal
  cases p.lastUse <;> rfl

/-- The checks of stage 6 for a pass, as the statements write them. -/
theorem kindRefusal_eq {s : State} {d : Decision} {c : CardData} {e : ProductEntry} {f : SailingFound}
    (hfound : d.found = some f) (hproduct : ((s.bank d.bank).products[c.product.toNat]?).join = some e)
    (hkind : d.kind = some e.kind) :
    kindRefusal s d c = match e.kind with
      | .storedValue => none
      | .periodPass => passRefusal s d c e f false
      | .cappedPass => passRefusal s d c e f true := by
  have hcapped : cappedRefusal s.slots s.params.passback d c =
      ((d.slot.bind fun k => s.slots[k]).elim (some .slotMismatch) fun p =>
        if p.media ≠ c.media then some .slotMismatch else slotRefusal p d.time s.params.passback) := by
    unfold cappedRefusal
    cases d.slot.bind fun k => s.slots[k] with
    | none => rfl
    | some p => simp only [ne_eq, ite_not, Option.elim_some]
  simp only [kindRefusal, Bank.product_eq_join, hproduct, hfound, hkind, notExpired_eq, Bool.not_not, hcapped, slotRefusal_eq]
  cases e.kind with
  | storedValue => rfl
  | periodPass => simp [passRefusal]
  | cappedPass =>
    simp only [passRefusal, Bool.not_eq_true', Bool.true_eq_false, if_false]
    cases d.slot.bind fun k => s.slots[k] <;> rfl

/-- Settles O42: a stored-value card goes on, a pass by its first failing check. -/
theorem productKindStageByTable : Obligations.ProductKindStageByTable := by
  intro s d t e f hdeciding hfound hproduct hkind
  simp only [exec, execProductKindStage, State.atStage_of_deciding hdeciding, productKindStage,
    kindRefusal_eq hfound hproduct hkind]
  cases e.kind with
  | storedValue => rfl
  | periodPass =>
    cases passRefusal s d t.card e f false with
    | none => rfl
    | some r => rfl
  | cappedPass =>
    cases passRefusal s d t.card e f true with
    | none => rfl
    | some r => rfl

end Sys2Proof.Machine
end

section
/-! Stage 8 (R15 to R17, R39, R42, R110): the verdict, the place and the use it takes, and the engine idle again. -/
namespace Sys2Proof.Machine
open Sys2Proof.Claims

/-! ### What stage 8 is made of -/

/-- The engine goes idle and the waiting activation is applied, as the statements write it (R42, R125). -/
theorem State.idle_applyActivation (s : State) : State.applyActivation { s with engine := none } = engineIdle s := by
  unfold engineIdle State.applyActivation
  dsimp only
  cases s.waitingActivation <;> rfl

/-- A place taken, and the alert raised when that fills the sailing, as the statements write it (R66, R78). -/
theorem State.capacityRose_onSailing (s : State) (b : BerthNo) (f : Sailing → Sailing) :
    (s.onSailing b f).capacityRose b = placeTaken s b f := by
  unfold State.capacityRose placeTaken State.onSailing State.setSailing
  cases hsl : s.sailings[b] with
  | none =>
    have hself : s.sailings.set b none = s.sailings := by rw [← hsl, vector_set_self]
    simp only [Option.map_none, hself, hsl]
  | some sl =>
    simp only [Option.map_some, getElem_set_fin_self, State.alert_eq_alerted]
    split
    · simp only [Vector.set_set]
    · rfl

theorem placeTaken_gates (s : State) (b : BerthNo) (f : Sailing → Sailing) : (placeTaken s b f).gates = s.gates := by
  unfold placeTaken
  split
  · rfl
  · split <;> rfl

/-- The place of an open, as the statements write it (R16, R17, R69). -/
theorem State.takePlace_eq (s : State) {d : Decision} {f : SailingFound} (hfound : d.found = some f) (k : Counting) :
    s.takePlace d k = match k with
      | .confirmed => if d.crew then s else placeTaken s f.berth fun sl => { sl with held := sl.held + 1 }
      | .direct =>
        if d.crew then s.onSailing f.berth Sailing.crewPassed
        else placeTaken s f.berth fun sl =>
          { sl with boarded := sl.boarded + 1, revenue := min 4294967295 (sl.revenue + d.charged) } := by
  simp only [State.takePlace, hfound]
  cases d.crew <;> cases k
  · exact s.capacityRose_onSailing f.berth Sailing.holding
  · exact s.capacityRose_onSailing f.berth fun sl => sl.boardedAtOnce d.charged
  · rfl
  · rfl

theorem State.takePlace_gates (s : State) (d : Decision) (k : Counting) : (s.takePlace d k).gates = s.gates := by
  cases hfound : d.found with
  | none => simp only [State.takePlace, hfound]
  | some f =>
    rw [State.takePlace_eq s hfound]
    cases k
    · dsimp only
      split
      · rfl
      · exact placeTaken_gates s f.berth _
    · dsimp only
      split
      · rfl
      · exact placeTaken_gates s f.berth _

/-! ### The three verdicts -/

theorem exec_verdict_of_deciding {s : State} {d : Decision} {t : Transaction} (h : s.deciding .verdict d t) :
    exec .verdict s = .next (engineIdle (match d.finalRefusal with
      | some r => s.giveRefusal d t r
      | none => s.giveOpen d t)) := by
  simp only [exec, execVerdict, State.atStage_of_deciding h, State.giveVerdict, State.idle_applyActivation] <;> rfl

/-- A refusal given, as the statements write it (R15, R70). -/
theorem State.giveRefusal_eq (s : State) (d : Decision) (t : Transaction) (r : Reason) :
    s.giveRefusal d t r =
      ended (recorded (verdictSent
        { s with
          sailings := match d.found with
            | some f =>
              if d.change = .closed then s.sailings
              else s.sailings.set f.berth (s.sailings[f.berth].map fun sl => { sl with refused := min 65535 (sl.refused + 1) })
            | none => s.sailings }
        d.gate t.tap (refusalOf d t.card r s.now))
        (.tap (tapFields .refused d.gate s.gates[d.gate].config.berth t.tap t.card (refusalOf d t.card r s.now) s.now)))
        d.gate t.tap := by
  unfold State.giveRefusal
  cases d.found with
  | none => rfl
  | some f =>
    dsimp only
    by_cases hchange : d.change = .closed
    · simp only [if_pos hchange]
      rfl
    · simp only [if_neg hchange]
      rfl

/-- An open given at a CONFIRMED gate (R16). -/
theorem State.giveOpen_confirmed (s : State) (d : Decision) (t : Transaction) (h : s.gates[d.gate].config.counting = .confirmed) :
    s.giveOpen d t =
      { verdictSent (Claims.onSlot (s.takePlace d .confirmed) d.slot fun p => { p with uses := p.uses + 1, inFlight := true })
          d.gate t.tap (openOf d s.now) with
        gates := s.gates.set d.gate
          { s.gates[d.gate] with
            list := s.gates[d.gate].list.map fun u =>
              if u.tap = t.tap then { u with state := .awaiting (awaitingOf s d (openOf d s.now)) } else u } } := by
  have hgates : (Claims.onSlot (s.takePlace d .confirmed) d.slot (PassSlot.counted .confirmed s.now)).gates = s.gates :=
    s.takePlace_gates d .confirmed
  simp only [State.giveOpen, h, State.onSlot_eq, State.updateTx, State.setGate, State.sendLane_gates, hgates]
  rfl

/-- An open given at a DIRECT gate (R17). -/
theorem State.giveOpen_direct (s : State) (d : Decision) (t : Transaction) (h : s.gates[d.gate].config.counting = .direct) :
    s.giveOpen d t =
      ended (recorded (verdictSent
        (Claims.onSlot (s.takePlace d .direct) d.slot fun p => { p with uses := p.uses + 1, lastUse := some s.now })
        d.gate t.tap (openOf d s.now))
        (.tap (tapFields .boarded d.gate s.gates[d.gate].config.berth t.tap t.card (openOf d s.now) s.now))) d.gate t.tap := by
  have hgates : (Claims.onSlot (s.takePlace d .direct) d.slot (PassSlot.counted .direct s.now)).gates = s.gates :=
    s.takePlace_gates d .direct
  simp only [State.giveOpen, h, State.onSlot_eq, tapRecord, State.sendLane_gates, hgates]
  rfl

theorem Decision.finalRefusal_of_refused {d : Decision} {r : Reason}
    (h : d.refusal = some r ∨ (d.refusal = none ∧ d.change ≠ .unchanged ∧ r = .departing)) : d.finalRefusal = some r := by
  rcases h with hrefusal | ⟨hnone, hchange, rfl⟩
  · simp only [Decision.finalRefusal, hrefusal]
  · simp only [Decision.finalRefusal, hnone, if_neg hchange]

theorem Decision.finalRefusal_of_open {d : Decision} (hnone : d.refusal = none) (hchange : d.change = .unchanged) :
    d.finalRefusal = none := by
  simp only [Decision.finalRefusal, hnone, if_pos hchange]

/-- Settles O44: the refusal that stands, or DEPARTING, is given. -/
theorem verdictRefuses : Obligations.VerdictRefuses := by
  intro s d t r now hdeciding hclock hrefused
  have hnow : s.now = now := by simp only [State.now, hclock, Option.getD_some]
  rw [exec_verdict_of_deciding hdeciding, Decision.finalRefusal_of_refused hrefused]
  simp only [State.giveRefusal_eq, hnow] <;> rfl

/-- Settles O45: the open at a CONFIRMED gate. -/
theorem verdictOpensAtConfirmedGate : Obligations.VerdictOpensAtConfirmedGate := by
  intro s d t f now hdeciding hclock hrefusal hchange hfound hcounting
  have hnow : s.now = now := by simp only [State.now, hclock, Option.getD_some]
  rw [exec_verdict_of_deciding hdeciding, Decision.finalRefusal_of_open hrefusal hchange]
  simp only [State.giveOpen_confirmed s d t hcounting, State.takePlace_eq s hfound, hnow]
  rfl

/-- Settles O46: the open at a DIRECT gate. -/
theorem verdictOpensAtDirectGate : Obligations.VerdictOpensAtDirectGate := by
  intro s d t f now hdeciding hclock hrefusal hchange hfound hcounting
  have hnow : s.now = now := by simp only [State.now, hclock, Option.getD_some]
  rw [exec_verdict_of_deciding hdeciding, Decision.finalRefusal_of_open hrefusal hchange]
  simp only [State.giveOpen_direct s d t hcounting, State.takePlace_eq s hfound, hnow]
  rfl

end Sys2Proof.Machine
end

section
/-! Frames that leave (R8, R173, R180 to R187): the bytes written are the fields of the tables of chapter 12. -/
namespace Sys2Proof.Machine
open Sys2Proof.Claims

/-! ### Codes and flags (R183, R186) -/

theorem beBytes_one_eq (v : Nat) : beBytes 1 v = [BitVec.ofNat 8 v] := rfl

theorem byte_of_toNat (b : Byte) : BitVec.ofNat 8 b.toNat = b := by
  rw [BitVec.ofNat_toNat, BitVec.setWidth_eq]

theorem outcomeCode_eq (o : VerdictOutcome) :
    BitVec.ofNat 8 (1 + [VerdictOutcome.opened, .openInspect, .openCrew, .refuse, .notInService, .muster, .gateClosed, .busy,
      .retry].idxOf o) = outcomeCode o := by
  cases o <;> rfl

theorem reasonCode_eq (r : Option Reason) : BitVec.ofNat 8 (reasonNumber r) = reasonCode r := by
  cases r with
  | none => rfl
  | some r => cases r <;> rfl

theorem gateModeCode_eq (m : GateMode) :
    BitVec.ofNat 8 (1 + [GateMode.normal, .closed, .freeEgress].idxOf m) = gateModeCode m := by
  cases m <;> rfl

theorem bankByte_eq (n : BankName) : BitVec.ofNat 8 (bankNumber n) = bankByte n := by
  cases n <;> rfl

theorem optBankByte_eq (n : Option BankName) : BitVec.ofNat 8 (markerNumber n) = optBankByte n := by
  cases n with
  | none => rfl
  | some n => cases n <;> rfl

theorem serviceByte_eq (sv : ServiceState) : BitVec.ofNat 8 (serviceNumber sv) = serviceByte sv := by
  cases sv <;> rfl

theorem sailingStateByte_eq (st : Option SailingState) : BitVec.ofNat 8 (sailingNumber st) = sailingStateByte st := by
  cases st with
  | none => rfl
  | some st => cases st <;> rfl

theorem gateStateByte_eq (st : GateState) :
    BitVec.ofNat 8 ([GateState.disabled, .draining, .active].idxOf st) = gateStateByte st := by
  cases st <;> rfl

theorem txStateByte_eq (t : Option TxStateName) : BitVec.ofNat 8 (txNumber t) = (t.map txStateByte).getD 0 := by
  cases t with
  | none => rfl
  | some t => cases t <;> rfl

theorem resetByte_eq (k : ResetKind) : BitVec.ofNat 8 ([ResetKind.power, .line, .command].idxOf k) = resetByte k := by
  cases k <;> rfl

theorem missingByte_eq (m : MissingItem) :
    BitVec.ofNat 8 (1 + [MissingItem.clockUnset, .limitsUnset, .noActiveBank].idxOf m) = missingByte m := by
  cases m <;> rfl

theorem resultByte_eq (r : ReplyResult) :
    BitVec.ofNat 8 ([ReplyResult.ok, .clamped, .lineHeld, .badState, .badIndex, .badValue, .alreadySet, .bankMismatch, .busy,
      .slotBusy, .queueFull, .badSeq, .unknownCommand, .malformed].idxOf r) = resultByte r := by
  cases r <;> rfl

theorem defaultActionByte_eq (a : DefaultAction) :
    BitVec.ofNat 8 ([DefaultAction.accept, .refuse].idxOf a) = defaultActionByte a := by
  cases a <;> rfl

theorem tapKindByte_eq (k : TapKind) :
    BitVec.ofNat 8 (1 + [TapKind.boarded, .notBoarded, .writeFailed, .timedOut, .voided, .refused].idxOf k) = tapKindByte k := by
  cases k <;> rfl

theorem boolByte_eq (b : Bool) : BitVec.ofNat 8 (flag 0 b) = boolByte b := by
  cases b <;> rfl

theorem flagByte_one (a : Bool) : flagByte [a] = boolByte a := by
  cases a <;> rfl

theorem flagByte_two (a b : Bool) : BitVec.ofNat 8 (flag 0 a + flag 1 b) = flagByte [a, b] := by
  cases a <;> cases b <;> rfl

theorem flagByte_three (a b c : Bool) : BitVec.ofNat 8 (flag 0 a + flag 1 b + flag 2 c) = flagByte [a, b, c] := by
  cases a <;> cases b <;> cases c <;> rfl

theorem flagByte_five (a b c d e : Bool) :
    BitVec.ofNat 8 (flag 0 a + flag 1 b + flag 2 c + flag 3 d + flag 4 e) = flagByte [a, b, c, d, e] := by
  have hall : ∀ a b c d e : Bool,
      BitVec.ofNat 8 (flag 0 a + flag 1 b + flag 2 c + flag 3 d + flag 4 e) = flagByte [a, b, c, d, e] := by decide
  exact hall a b c d e

/-- Two's complement is the remainder modulo 2^32 (R183). -/
theorem signedBytes_eq (v : Option Int) : beBytes 4 (signed v) = signedBytes (v.getD 0) := by
  rw [signedBytes, BitVec.toNat_ofInt]
  rfl

/-! ### The groups of fields (R183, R186) -/

theorem fields_time (t : ServiceTime) : fields (timeFields (some t)) = timeBytes t := by
  simp only [timeFields, timeBytes, fields_cons, fields_nil, List.append_nil]

theorem fields_optTime (t : Option ServiceTime) : fields (timeFields t) = optTimeBytes t := by
  cases t with
  | none => rfl
  | some t => exact fields_time t

theorem fields_priority (m : Option PriorityMatch) : fields (priorityFields m) = priorityBytes m := by
  cases m with
  | none => rfl
  | some m =>
    simp only [priorityFields, priorityBytes, fields_append, fields_cons, fields_nil, fields_time, List.append_nil,
      List.append_assoc]

/-- A vector of four, entry by entry. -/
theorem toList_four {α : Type} (v : Vector α 4) : v.toList = [v[0], v[1], v[2], v[3]] := by
  obtain ⟨⟨l⟩, h⟩ := v
  match l, h with
  | [_, _, _, _], _ => rfl

theorem fields_part (r : PartSection) : fields (partFields r) = partBytes r := by
  have hceilings : ((r.ceilings.getD (Vector.replicate 4 0)).toList.map (beBytes 2)).flatten =
      fields (([0, 1, 2, 3] : List (Fin 4)).map fun b => (2, match r.ceilings with
        | some tops => tops[b]
        | none => 0)) := by
    cases r.ceilings with
    | none => rfl
    | some tops =>
      simp only [Option.getD_some, toList_four, List.map_cons, List.map_nil, List.flatten_cons, List.flatten_nil, fields_cons,
        fields_nil]
      rfl
  simp only [partFields, partBytes, hceilings, fields_append, fields_cons, fields_nil, fields_optTime, fields_priority,
    beBytes_one_eq, serviceByte_eq, flagByte_two, flagByte_three, resetByte_eq, optBankByte_eq, List.map_cons, List.map_nil,
    List.append_nil, List.append_assoc, List.cons_append, List.nil_append]
  rfl

theorem fields_gate (r : GateReport) : fields (gateFields r) = gateReportBytes r := by
  simp only [gateFields, gateReportBytes, fields_cons, fields_nil, beBytes_one_eq, gateStateByte_eq, txStateByte_eq,
    List.append_nil, List.cons_append, List.nil_append]

theorem fields_berth (o : Option Sailing) : fields (berthFields o) = berthReportBytes o := by
  cases o with
  | none => rfl
  | some sl =>
    simp only [berthFields, berthReportBytes, timeBytes, fields_cons, fields_nil, beBytes_one_eq, sailingStateByte_eq,
      List.append_nil, List.append_assoc, List.cons_append, List.nil_append]

/-! ### The payloads (R184, R186, R187) -/

theorem fields_reply (d : ReplyData) : fields (replyFields d) = replyDataBytes d := by
  cases d with
  | nothing => rfl
  | params p =>
    simp only [replyFields, replyDataBytes, paramsBytes, fields_cons, fields_nil, beBytes_one_eq, defaultActionByte_eq,
      List.append_nil, List.append_assoc]
  | masks m =>
    simp only [replyFields, replyDataBytes, fields_cons, fields_nil, beBytes_one_eq, boolByte_eq, List.append_nil,
      List.cons_append, List.nil_append]
  | count n => simp only [replyFields, replyDataBytes, fields_cons, fields_nil, List.append_nil]
  | bank b => simp only [replyFields, replyDataBytes, fields_cons, fields_nil, beBytes_one_eq, bankByte_eq, List.append_nil]
  | entry e =>
    cases e with
    | none => rfl
    | some e =>
      simp only [replyFields, replyDataBytes, fields_cons, entryBytes_eq_fields]
      rfl
  | capacity n => simp only [replyFields, replyDataBytes, fields_cons, fields_nil, List.append_nil]
  | sailingState st =>
    simp only [replyFields, replyDataBytes, fields_cons, fields_nil, beBytes_one_eq, sailingStateByte_eq, List.append_nil]
  | service sv =>
    simp only [replyFields, replyDataBytes, fields_cons, fields_nil, beBytes_one_eq, serviceByte_eq, List.append_nil]
  | missing m =>
    simp only [replyFields, replyDataBytes, fields_cons, fields_nil, beBytes_one_eq, missingByte_eq, List.append_nil]
  | stillOpen berths gates => simp only [replyFields, replyDataBytes, fields_cons, fields_nil, List.append_nil]
  | sent n => simp only [replyFields, replyDataBytes, fields_cons, fields_nil, List.append_nil]
  | acked removed left => simp only [replyFields, replyDataBytes, fields_cons, fields_nil, List.append_nil]
  | oldest seq =>
    simp only [replyFields, replyDataBytes, fields_cons, fields_nil, beBytes_one_eq, boolByte_eq, flagByte_one,
      List.append_nil]
  | part r => exact fields_part r
  | gates r =>
    simp only [replyFields, replyDataBytes, fields_cons, fields_flatMap, fields_gate]
    rfl
  | berths r =>
    simp only [replyFields, replyDataBytes, fields_cons, fields_flatMap, fields_berth]
    rfl

theorem fields_alert (a : Alert) : fields (alertFields a) = alertPayload a := by
  cases a with
  | capacityReached berth sailing capacity boarded held =>
    simp only [alertFields, alertPayload, fields_cons, fields_nil, beBytes_one_eq, List.append_nil, List.append_assoc]
    rfl
  | queueHigh written reserved oldest =>
    simp only [alertFields, alertPayload, fields_cons, fields_nil, beBytes_one_eq, boolByte_eq, flagByte_one, List.append_nil,
      List.append_assoc]
    rfl
  | priorityMatch m =>
    simp only [alertFields, alertPayload, fields_cons, fields_priority]
    rfl

theorem fields_record (r : Record) : fields (recordFields r) = recordPayload r := by
  obtain ⟨seq, body⟩ := r
  cases body with
  | tap t =>
    obtain ⟨kind, gate, berth, sailing, tap, media, product, concession, filterIndex, reason, crew, inspect, bank, fareValue,
      credit, charged, newBalance, verdictTime, resolutionTime⟩ := t
    simp only [recordFields, recordPayload, fields_cons, fields_append, fields_time, beBytes_one_eq, tapKindByte_eq,
      byte_of_toNat, reasonCode_eq, flagByte_five, bankByte_eq, signedBytes_eq, List.append_assoc,
      List.cons_append, List.nil_append]
    cases berth <;> cases filterIndex <;> rfl
  | summary m =>
    simp only [recordFields, recordPayload, fields_cons, fields_append, fields_time, beBytes_one_eq,
      List.append_assoc, List.cons_append, List.nil_append]
    rfl

/-- A frame for the station computer is laid out by chapter 12. -/
theorem uplinkFrameBytes_eq (f : UplinkFrame) :
    uplinkFrameBytes f = checked (uplinkLayout f).1 (fields (uplinkLayout f).2) := by
  rw [uplinkFrameBytes, frameBytes_eq_checked]
  cases f with
  | reply code tag result data =>
    simp only [uplinkPayload, uplinkLayout, fields_cons, fields_reply, beBytes_one_eq, byte_of_toNat,
      resultByte_eq, List.cons_append, List.nil_append]
    rfl
  | record r =>
    simp only [uplinkPayload, uplinkLayout, fields_record]
    rfl
  | alert a =>
    simp only [uplinkPayload, uplinkLayout, fields_alert]
    rfl

/-- A frame on a gate lane is laid out by chapter 12. -/
theorem gateFrameBytes_eq (f : GateFrame) : gateFrameBytes f = checked (gateLayout f).1 (fields (gateLayout f).2) := by
  rw [gateFrameBytes, frameBytes_eq_checked]
  cases f with
  | verdict tap outcome reason charged newBalance inspect =>
    simp only [gatePayload, gateLayout, fields_cons, fields_nil, beBytes_one_eq, outcomeCode_eq, reasonCode_eq, signedBytes_eq,
      flagByte_two, List.append_nil, List.append_assoc, List.cons_append, List.nil_append]
    rfl
  | gateMode mode =>
    simp only [gatePayload, gateLayout, fields_cons, fields_nil, beBytes_one_eq, gateModeCode_eq, List.append_nil]
    rfl

/-- Frames leave while the part is out of reset, or while a RESET waits for them (R165, R166). -/
theorem State.sends_of_phase {s : State} (h : s.phase = .running ∨ s.phase = .resetTaken) : s.sends = true := by
  unfold State.sends
  rcases h with h | h <;> rw [h]

/-- Settles O29: the front of a list leaves, in the bytes of its layout. -/
theorem oldestFrameLeavesFirst : Obligations.OldestFrameLeavesFirst := by
  intro s hphase
  have hsends := State.sends_of_phase hphase
  refine ⟨fun f rest hlist => ?_, fun g f rest hlist => ?_⟩
  · simp only [exec, execUplinkFrameSent, hlist, if_pos hsends, uplinkFrameBytes_eq]
  · simp only [exec, execLaneFrameSent, hlist, if_pos hsends, gateFrameBytes_eq]

end Sys2Proof.Machine
end

section
/-! The moves of the part (chapters 1 to 11): every command is a run of them, so a law that each move keeps is kept by every
command. -/
namespace Sys2Proof.Machine
open Sys2Proof.Claims

/-! ### The moves -/

/-- The command answers a next state of which `P` holds. -/
def Gives (r : Result) (P : State → Prop) : Prop := ∃ t, r = .next t ∧ P t

/-- What a stage makes of the decision in progress, the end of a search and the verdict apart (R32 to R38). -/
inductive StageStep (s : State) (d : Decision) (c : CardData) : Decision → Prop
  | sailing (h : d.stage = .sailing) : StageStep s d c (sailingStage s d)
  | cardData (h : d.stage = .cardData) : StageStep s d c (cardDataStage d c)
  | search (h : d.stage = .filter) : StageStep s d c { d with stage := .searching }
  | product (h : d.stage = .product) : StageStep s d c (productStage (s.bank d.bank) d c)
  | recheck (h : d.stage = .capacity) (hchange : d.change = .left) : StageStep s d c d.toRecheck
  | capacity (h : d.stage = .capacity) (hchange : d.change ≠ .left) (o : Occupancy) (ho : s.occupancyOf d = some o) :
    StageStep s d c (capacityStage d o)
  | lost (h : d.stage = .capacity) (hchange : d.change ≠ .left) (ho : s.occupancyOf d = none) (o : Occupancy) :
    StageStep s d c (capacityStage d o)
  | productKind (h : d.stage = .productKind) : StageStep s d c (productKindStage s d c)
  | fare (h : d.stage = .fare) (band : BandEntry) (o : Occupancy) (line : LineCode) (kind : ProductKind) (overdraft : Nat)
    (hkind : d.kind = some kind) : StageStep s d c (fareStage (s.bank d.bank) band o line kind overdraft d c)

/-- What the end of a search makes of the decision in progress (R34). -/
inductive SearchEnd (d : Decision) : Decision → Prop
  | matched (i : FilterIndex) (a : FilterAction) : SearchEnd d (actOn d i a)
  | unmatched (a : DefaultAction) : SearchEnd d (actByDefault d a)

/-- A law kept by every move that the command `c` is made of. Moves that few commands make name them. -/
structure Keeps (c : Instr) (P : State → Prop) : Prop where
  quiet (s : State) laneRx laneOut laneTx filters lastPriority queueHighArmed musterLine commandRequest tenths timeBase masks
    resetLine uplinkRx uplinkTx freeCount : P s →
    P { s with
      laneRx := laneRx, laneOut := laneOut, laneTx := laneTx, filters := filters, lastPriority := lastPriority,
      queueHighArmed := queueHighArmed, musterLine := musterLine, commandRequest := commandRequest, tenths := tenths,
      timeBase := timeBase, masks := masks, resetLine := resetLine, uplinkRx := uplinkRx, uplinkTx := uplinkTx,
      freeCount := freeCount }
  taken (s : State) f rest : P s → s.receiveList = f :: rest → P { s with receiveList := rest }
  produced (s : State) fs : P s → s.committed + fs.length ≤ 64 → P { s with outgoing := s.outgoing ++ fs }
  arrived (s : State) f : P s → s.receiveList.length < 8 → P { s with receiveList := s.receiveList ++ [f] }
  sent (s : State) f rest : P s → s.outgoing = f :: rest → P { s with outgoing := rest }
  counted (s : State) (g : Gate) bad strays : P s → (s.gates[g].badFrames ≤ 255 → bad ≤ 255) →
    (s.gates[g].strays ≤ 255 → strays ≤ 255) → P (s.setGate g { s.gates[g] with badFrames := bad, strays := strays })
  tapped (s : State) (g : Gate) t : P s → s.service = .inService → s.gates[g].state = .active → t.isPending = true →
    findTap s.gates[g].list t.tap = none → s.gates[g].list.length < s.gates[g].config.lane.places →
    P (s.setGate g { s.gates[g] with list := s.gates[g].list ++ [t] })
  retried (s : State) (g : Gate) tap t : P s → findTap s.gates[g].list tap = some t → t.isPending = true → P (ended s g tap)
  passed (s : State) (g : Gate) tap t a now : P s → findTap s.gates[g].list tap = some t → t.state = .awaiting a →
    P (closedIfEmpty (boarded s g t a now) g now)
  turned (s : State) (g : Gate) tap t a kind now : P s → findTap s.gates[g].list tap = some t → t.state = .awaiting a →
    P (closedIfEmpty (notBoarded s g t a kind now) g now)
  configured (s : State) (g : Gate) k : P s →
    (s.gates[g].state = .active ∧ k = s.gates[g].disable ∨
      s.gates[g].state = .disabled ∧ ∃ v, k = s.gates[g].configure v) → P ((s.setGate g k).refreshMode g)
  granted (s : State) (g : Gate) t : P s → Eligible s g t → P (s.grantTo g t)
  staged (s : State) d t d' n : P s → s.engine = some d → findTap s.gates[d.gate].list d.tap = some t →
    StageStep s d t.card d' → P { s with engine := some d', freeCount := n }
  searched (s : State) d t d' lp out fs : P s → s.engine = some d → findTap s.gates[d.gate].list d.tap = some t →
    d.stage = .searching → SearchEnd d d' →
    (s.committed ≤ 64 → out.length + (if s.waitingActivation.isSome then 1 else 0) ≤ 64) →
    P { s with engine := some d', waitingWrites := [], lastPriority := lp, outgoing := out, filters := fs }
  refused (s : State) d t r : P s → s.deciding .verdict d t → d.finalRefusal = some r → P (engineIdle (s.giveRefusal d t r))
  opened (s : State) d t : P s → s.deciding .verdict d t → d.finalRefusal = none → P (engineIdle (s.giveOpen d t))
  writeWaits (s : State) w : P s → s.searching = true → s.committed < 64 →
    P { s with waitingWrites := s.waitingWrites ++ [w] }
  loaded (s : State) n i e : c = .loadFare → P s → s.bankHeld n = false → shapeFits i e →
    P (s.setBank n ((s.bank n).load i e))
  cleared (s : State) n : c = .clearBank → P s → s.bankHeld n = false → P (s.setBank n Bank.empty)
  activated (s : State) n : P s → s.waitingActivation = none → P { s with activeBank := some n }
  activationWaits (s : State) w : P s → s.waitingActivation = none → s.engine.isSome = true → s.committed < 64 →
    P { s with waitingActivation := some w }
  slotLoaded (s : State) k media limit : P s → s.slotBusy k = false → 1 ≤ limit → limit ≤ 15 →
    P (s.setSlot k (some ⟨media, limit, 0, false, none⟩))
  slotCleared (s : State) k : P s → s.slotBusy k = false → P (s.setSlot k none)
  sailingOpened (s : State) (b : BerthNo) id line given now : P s → s.service = .inService → s.sailings[b] = none → 1 ≤ given →
    s.canReserve = true →
    P ((Claims.reserved s).setSailing b (some (openedSailing id line (clampCapacity s.ceilings b given) now)))
  sailingClosed (s : State) (b : BerthNo) sl now : P s → s.sailings[b] = some sl →
    (sl.state = .suspended ∨ sl.state = .boarding ∧ sl.held = 0) → P (closed s b sl now)
  sailingLeaves (s : State) (b : BerthNo) sl : P s → s.sailings[b] = some sl → sl.state = .boarding → 0 < sl.held →
    P ((s.setSailing b (some { sl with state := .closing })).noteChange b .left)
  timeSet (s : State) t slots : P s → t.inRange → (slots = s.slots ∨ slots = rolledOver s.slots) →
    P { s with clock := some t, slots := slots }
  secondPassed (s : State) t slots : P s → s.clock = some t → (slots = s.slots ∨ slots = rolledOver s.slots) →
    P { s with clock := some t.next, slots := slots }
  limited (s : State) (tops : Vector Nat 4) : c = .setLimits → P s → s.service = .config → s.ceilings = none →
    (∀ b : BerthNo, 1 ≤ tops[b] ∧ tops[b] ≤ 999) → P { s with ceilings := some tops }
  adjusted (s : State) p : P s → p.inRange → P { s with params := p }
  acked (s : State) i : P s → P { s with written := s.written.drop i }
  started (s : State) : P s → s.service = .config → s.clock.isSome = true → s.ceilings.isSome = true →
    s.activeBank.isSome = true → P (modesSent { s with service := .inService })
  stopped (s : State) : P s → s.openBerths = 0 → s.holdingGates = 0 → P (modesSent { s with service := .config })
  mustered (s : State) : P s → (s.service = .inService ∨ s.service = .config ∧ s.clock.isSome = true ∧
    s.ceilings.isSome = true ∧ s.activeBank.isSome = true) → P s.musterEntry
  resumed (s : State) : P s → s.service = .muster → P s.musterExit
  phased (s : State) p : P s → p ≠ .running → P { s with phase := p }
  began (s : State) p : P s → P (dropped s p)
  cameOut (s : State) k : (c = .commandResetEnd ∨ c = .powerUpComplete ∨ c = .resetLineReleased) → P s → P (s.comeOut k)

end Sys2Proof.Machine
end

section
/-! Every command is a run of moves: a law that each move keeps is kept by every command, which always answers a next state. -/
namespace Sys2Proof.Machine
open Sys2Proof.Claims

section
variable {c : Instr} {P : State → Prop}

/-! ### Frames and replies -/

theorem Gives.next {s : State} (hs : P s) : Gives (.next s) P := ⟨s, rfl, hs⟩

theorem Keeps.lanes (h : Keeps c P) {s : State} (hs : P s) (laneOut : Vector (List GateFrame) 16) :
    P { s with laneOut := laneOut } :=
  h.quiet s s.laneRx laneOut s.laneTx s.filters s.lastPriority s.queueHighArmed s.musterLine s.commandRequest s.tenths
    s.timeBase s.masks s.resetLine s.uplinkRx s.uplinkTx s.freeCount hs

theorem Keeps.receivers (h : Keeps c P) {s : State} (hs : P s) (laneRx : Vector Receiver 16) (uplinkRx : Receiver) :
    P { s with laneRx := laneRx, uplinkRx := uplinkRx } :=
  h.quiet s laneRx s.laneOut s.laneTx s.filters s.lastPriority s.queueHighArmed s.musterLine s.commandRequest s.tenths
    s.timeBase s.masks s.resetLine uplinkRx s.uplinkTx s.freeCount hs

theorem Keeps.timed (h : Keeps c P) {s : State} (hs : P s) (tenths timeBase : Nat) :
    P { s with tenths := tenths, timeBase := timeBase } :=
  h.quiet s s.laneRx s.laneOut s.laneTx s.filters s.lastPriority s.queueHighArmed s.musterLine s.commandRequest tenths
    timeBase s.masks s.resetLine s.uplinkRx s.uplinkTx s.freeCount hs

theorem Keeps.armed (h : Keeps c P) {s : State} (hs : P s) (queueHighArmed : Bool) (masks : AlertMasks) :
    P { s with queueHighArmed := queueHighArmed, masks := masks } :=
  h.quiet s s.laneRx s.laneOut s.laneTx s.filters s.lastPriority queueHighArmed s.musterLine s.commandRequest s.tenths
    s.timeBase masks s.resetLine s.uplinkRx s.uplinkTx s.freeCount hs

theorem Keeps.requested (h : Keeps c P) {s : State} (hs : P s) (musterLine commandRequest resetLine : Bool) :
    P { s with musterLine := musterLine, commandRequest := commandRequest, resetLine := resetLine } :=
  h.quiet s s.laneRx s.laneOut s.laneTx s.filters s.lastPriority s.queueHighArmed musterLine commandRequest s.tenths
    s.timeBase s.masks resetLine s.uplinkRx s.uplinkTx s.freeCount hs

theorem Keeps.filtered (h : Keeps c P) {s : State} (hs : P s) (filters : Vector (Option FilterRule) 128) :
    P { s with filters := filters } :=
  h.quiet s s.laneRx s.laneOut s.laneTx filters s.lastPriority s.queueHighArmed s.musterLine s.commandRequest s.tenths
    s.timeBase s.masks s.resetLine s.uplinkRx s.uplinkTx s.freeCount hs

/-- A frame's bytes leave on a pin. -/
theorem Keeps.pinned (h : Keeps c P) {s : State} (hs : P s) (laneOut : Vector (List GateFrame) 16)
    (laneTx : Vector (List Byte) 16) (uplinkTx : List Byte) :
    P { s with laneOut := laneOut, laneTx := laneTx, uplinkTx := uplinkTx } :=
  h.quiet s s.laneRx laneOut laneTx s.filters s.lastPriority s.queueHighArmed s.musterLine s.commandRequest s.tenths
    s.timeBase s.masks s.resetLine s.uplinkRx uplinkTx s.freeCount hs

theorem Keeps.replied (h : Keeps c P) {s : State} (hs : P s) (hroom : s.committed ≤ 63) (k : Command) (tag : Byte)
    (r : ReplyResult) (d : ReplyData) : P (s.reply k tag r d) :=
  h.produced s _ hs (Nat.succ_le_succ hroom)

/-- A management command whose block keeps the law, the front frame taken, gives a state of the law (R169, R170). -/
theorem Keeps.takeFrame (h : Keeps c P) {α : Type} {k : Command} {parse : List Byte → Option α}
    {handle : Byte → α → State → State} {s : State} (hs : P s)
    (hhandle : ∀ tag a s, P s → s.committed ≤ 47 → P (handle tag a s)) : Gives (takeFrame k parse handle s) P := by
  obtain ⟨t, ht⟩ := takeFrame_next k parse handle s
  refine ⟨t, ht, ?_⟩
  obtain rfl | ⟨f, rest, hlist, -, hroom, -, ⟨-, rfl⟩ | ⟨a, -, rfl⟩⟩ := takeFrame_cases ht
  · exact hs
  · exact h.replied (h.taken s f rest hs hlist) (le_trans hroom (by decide)) k f.tag .malformed .nothing
  · exact hhandle f.tag a _ (h.taken s f rest hs hlist) hroom

/-! ### The gate lanes -/

theorem Keeps.badFrame (h : Keeps c P) {s : State} (hs : P s) (g : Gate) : P (s.badFrame g) :=
  h.counted s g _ _ hs (fun _ => min_le_left _ _) id

theorem Keeps.strayReport (h : Keeps c P) {s : State} (hs : P s) (g : Gate) : P (s.strayReport g) :=
  h.counted s g _ _ hs id fun _ => min_le_left _ _

theorem Keeps.tapArrives (h : Keeps c P) {s : State} (hs : P s) (g : Gate) (t : TapFrame) : P (s.tapArrives g t) := by
  unfold State.tapArrives
  split
  · exact h.lanes hs _
  · rename_i hanswer
    rw [tapAnswer_eq, ← LaneKind.places_eq] at hanswer
    split_ifs at hanswer with hconfig hmuster hclosed hheld hfull
    have hservice : s.service = .inService := by
      cases hsv : s.service
      · exact absurd hsv hconfig
      · rfl
      · exact absurd hsv hmuster
    have hactive : s.gates[g].state = .active := by
      cases hstate : s.gates[g].state
      · exact absurd (.inl hstate) hclosed
      · exact absurd (.inr hstate) hclosed
      · rfl
    refine h.tapped s g (newTransaction s t) hs hservice hactive rfl ?_ (Nat.lt_of_not_le hfull)
    rw [← findTap_isSome, Option.not_isSome_iff_eq_none] at hheld
    exact hheld

theorem Keeps.passageArrives (h : Keeps c P) {s : State} (hs : P s) (g : Gate) (tap : TapNumber) (r : PassageResult) :
    P (s.passageArrives g tap r) := by
  rw [State.passageArrives_eq]
  cases hmatch : matchingAwaiting s.gates[g].list tap with
  | none => exact h.strayReport hs g
  | some p =>
    obtain ⟨t, a⟩ := p
    obtain ⟨hfind, hstate⟩ := find_of_matchingAwaiting hmatch
    cases r with
    | passed => exact h.passed s g tap t a s.now hs hfind hstate
    | turnedBack => exact h.turned s g tap t a .notBoarded s.now hs hfind hstate
    | writeFailed => exact h.turned s g tap t a .writeFailed s.now hs hfind hstate
    | unknown => exact h.strayReport hs g

theorem Keeps.laneEvent (h : Keeps c P) (g : Gate) (s : State) (ev : RxEvent) (hs : P s) : P (State.laneEvent g s ev) := by
  unfold State.laneEvent
  split
  · exact h.badFrame hs g
  · exact h.tapArrives hs g _
  · exact h.passageArrives hs g _ _

theorem Keeps.laneBytes (h : Keeps c P) {s : State} (hs : P s) (g : Gate) (bytes : List Byte) : P (s.laneBytes g bytes) :=
  foldl_keeps (h.laneEvent g) _ (h.receivers hs _ s.uplinkRx)

theorem Keeps.uplinkBytes (h : Keeps c P) {s : State} (hs : P s) (bytes : List Byte) : P (s.uplinkBytes bytes) := by
  refine foldl_keeps (fun s ev hs => ?_) _ (h.receivers hs s.laneRx _)
  unfold State.uplinkEvent
  split
  · exact hs
  · split
    · rename_i hroom
      exact h.arrived s _ hs hroom
    · exact hs

theorem Keeps.tapWaitExpiry (h : Keeps c P) {s : State} (hs : P s) (g : Gate) (tap : TapNumber) :
    Gives (execTapWaitExpiry g tap s) P := by
  unfold execTapWaitExpiry
  split
  · rename_i t w hwaiting
    split
    · obtain ⟨u, hfind, hmatch⟩ := Option.bind_eq_some_iff.mp hwaiting
      split at hmatch
      · rename_i w' hstate
        have hpending : u.isPending = true := by simp only [Transaction.isPending, hstate]
        have htimed : P (s.timeReaches w.deadline) := h.timed hs _ _
        have hretried := h.retried (s.timeReaches w.deadline) g tap u htimed hfind hpending
        exact .next (h.lanes hretried _)
      · cases hmatch
    · exact .next hs
  · exact .next hs

theorem Keeps.passageWindowExpiry (h : Keeps c P) {s : State} (hs : P s) (g : Gate) (tap : TapNumber) :
    Gives (execPassageWindowExpiry g tap s) P := by
  unfold execPassageWindowExpiry
  split
  · rename_i t a hmatch
    split
    · obtain ⟨hfind, hstate⟩ := find_of_matchingAwaiting hmatch
      rw [State.endNotBoarded_eq, State.atBerthOf_closeIfEmpty]
      exact .next (h.turned _ g tap t a .timedOut _ (h.timed hs _ _) hfind hstate)
    · exact .next hs
  · exact .next hs

/-! ### The arbiter and the engine -/

theorem Keeps.grant (h : Keeps c P) {s : State} (hs : P s) : Gives (execGrant s) P := by
  unfold execGrant
  split
  · rename_i g t hgrant
    split
    · rename_i hopen
      obtain ⟨hactive, hmem, hpending⟩ := State.pending_of_arbiterGrant hgrant
      obtain ⟨-, hrest⟩ := s.grantsOpen_iff.mp hopen
      exact .next (h.granted s g t hs ⟨hmem, hpending, hactive, hrest⟩)
    · exact .next hs
  · exact .next hs

/-- A stage that answers a changed decision gives a state of the law. -/
theorem Keeps.stage (h : Keeps c P) {s : State} (hs : P s) {st : Stage} {d d' : Decision} {t : Transaction} (n : Nat)
    (hat : s.atStage st = some (d, t)) (hstep : d.stage = st → StageStep s d t.card d') :
    Gives (.next { s with engine := some d', freeCount := n }) P := by
  obtain ⟨-, hengine, hstage, hfind⟩ := State.deciding_of_atStage hat
  exact .next (h.staged s d t d' n hs hengine hfind (hstep hstage))

theorem Keeps.sailingStage (h : Keeps c P) {s : State} (hs : P s) : Gives (execSailingStage s) P := by
  unfold execSailingStage
  split
  · exact h.stage hs s.freeCount ‹_› .sailing
  · exact .next hs

theorem Keeps.cardDataStage (h : Keeps c P) {s : State} (hs : P s) : Gives (execCardDataStage s) P := by
  unfold execCardDataStage
  split
  · exact h.stage hs s.freeCount ‹_› .cardData
  · exact .next hs

theorem Keeps.filterSearch (h : Keeps c P) {s : State} (hs : P s) : Gives (execFilterSearch s) P := by
  unfold execFilterSearch
  split
  · exact h.stage hs s.freeCount ‹_› .search
  · exact .next hs

/-- The end of a search: the decision acts, at most one alert is raised, and the waiting writes are answered (R34, R54). -/
theorem Keeps.searchEnds (h : Keeps c P) {s : State} {d : Decision} {t : Transaction} (hs : P s)
    (hdeciding : s.deciding .searching d t) : P (s.searchEnds d t.card).applyWrites := by
  obtain ⟨-, hengine, hstage, hfind⟩ := hdeciding
  rw [State.searchEnds, State.applyWrites_eq]
  have hroom (out : List UplinkFrame) (hout : out.length ≤ s.outgoing.length ∨ s.committed < 64 ∧ out.length ≤ s.outgoing.length + 1)
      (hcommitted : s.committed ≤ 64) :
      (out ++ s.waitingWrites.map fun w => UplinkFrame.reply Command.loadFilter.code w.tag .ok .nothing).length +
        (if s.waitingActivation.isSome then 1 else 0) ≤ 64 := by
    simp only [State.committed, State.owed] at hcommitted hout
    rw [List.length_append, List.length_map]
    omega
  split
  · rename_i i r _
    split
    · rw [State.priorityMatched, State.alert_eq]
      refine h.searched s d t _ _ _ _ hs hengine hfind hstage (.matched i r.action) (hroom _ ?_)
      dsimp only
      split
      · exact .inl le_rfl
      · rename_i hopen
        exact .inr ⟨Nat.lt_of_not_le fun hfull => hopen (.inr hfull), by simp⟩
    · exact h.searched s d t _ _ _ _ hs hengine hfind hstage (.matched i r.action) (hroom _ (.inl le_rfl))
  · exact h.searched s d t _ _ _ _ hs hengine hfind hstage (.unmatched _) (hroom _ (.inl le_rfl))

theorem Keeps.filterSearchComplete (h : Keeps c P) {s : State} (hs : P s) : Gives (execFilterSearchComplete s) P := by
  unfold execFilterSearchComplete
  split
  · rename_i hat
    exact .next (h.searchEnds hs (State.deciding_of_atStage hat))
  · exact .next hs

theorem Keeps.productStage (h : Keeps c P) {s : State} (hs : P s) : Gives (execProductStage s) P := by
  unfold execProductStage
  split
  · exact h.stage hs s.freeCount ‹_› .product
  · exact .next hs

theorem Keeps.capacityStage (h : Keeps c P) {s : State} (hs : P s) : Gives (execCapacityStage s) P := by
  unfold execCapacityStage
  split
  · rename_i d t hat
    split
    · rename_i hchange
      exact h.stage hs s.freeCount hat (.recheck · hchange)
    · rename_i hchange
      split
      · rename_i o ho
        exact h.stage hs s.freeCount hat (.capacity · hchange o ho)
      · rename_i ho
        exact h.stage hs (s.freeCount + 1) hat (.lost · hchange ho _)
  · exact .next hs

theorem Keeps.productKindStage (h : Keeps c P) {s : State} (hs : P s) : Gives (execProductKindStage s) P := by
  unfold execProductKindStage
  split
  · exact h.stage hs s.freeCount ‹_› .productKind
  · exact .next hs

theorem Keeps.fareStage (h : Keeps c P) {s : State} (hs : P s) : Gives (execFareStage s) P := by
  unfold execFareStage
  split
  · rename_i d t hat
    split
    · rename_i hkind _
      exact h.stage hs s.freeCount hat (.fare · _ _ _ _ _ hkind)
    · exact .next hs
  · exact .next hs

theorem Keeps.verdict (h : Keeps c P) {s : State} (hs : P s) : Gives (execVerdict s) P := by
  unfold execVerdict
  split
  · rename_i d t hat
    have hdeciding := State.deciding_of_atStage hat
    simp only [State.giveVerdict, State.idle_applyActivation]
    cases hrefusal : d.finalRefusal with
    | none => exact .next (h.opened s d t hs hdeciding hrefusal)
    | some r => exact .next (h.refused s d t r hs hdeciding hrefusal)
  · exact .next hs

end
end Sys2Proof.Machine
end

section
/-! The management commands, muster and the resets as runs of moves, and with them every command. -/
namespace Sys2Proof.Machine
open Sys2Proof.Claims

/-! ### Muster entry leaves as many frames and owed replies as it finds -/

/-- Frames waiting to leave, waiting writes and the waiting activation, counted. -/
theorem State.committed_eq (s : State) :
    s.committed = s.outgoing.length + (s.waitingWrites.length + s.waitingActivation.toList.length) := by
  unfold State.committed State.owed
  cases s.waitingActivation <;> rfl

theorem endNotBoarded_committed (s : State) (g : Gate) (t : Transaction) (a : Awaiting) (kind : TapKind) :
    (s.endNotBoarded g t a kind).committed = s.committed := by
  rw [State.endNotBoarded_eq]
  rfl

theorem musterTx_committed (g : Gate) (s : State) (t : Transaction) : (State.musterTx g s t).committed = s.committed := by
  unfold State.musterTx
  split
  · rfl
  · exact endNotBoarded_committed s g t _ .voided
  · rfl

theorem musterGate_committed (s : State) (g : Gate) : (s.musterGate g).committed = s.committed :=
  foldl_keeps (P := fun t => t.committed = s.committed) (fun t u ht => (musterTx_committed g t u).trans ht) _ rfl

theorem musterBerth_committed (s : State) (b : BerthNo) : (s.musterBerth b).committed = s.committed := by
  unfold State.musterBerth
  cases hsl : s.sailings[b] with
  | none => rfl
  | some sl =>
    dsimp only
    split
    · rfl
    · rw [State.closeSailing_eq hsl]
      rfl
    · rfl

/-- A decision abandoned: VERDICT MUSTER, its reservation released, its transaction ended, the waiting writes applied and
answered (R43, R149). -/
theorem State.abandonDecision_eq {s : State} {d : Decision} (h : s.engine = some d) :
    s.abandonDecision = { ended s d.gate d.tap with
      laneOut := s.laneOut.set d.gate (s.laneOut[d.gate] ++ [.verdict d.tap .muster none 0 none false])
      reserved := s.reserved - 1
      queueHighArmed := decide (s.written.length + (s.reserved - 1) < s.params.highMark) || s.queueHighArmed
      engine := none
      filters := s.waitingWrites.foldl (fun fs w => fs.set w.index w.entry) s.filters
      waitingWrites := []
      outgoing := s.outgoing ++ s.waitingWrites.map fun w => .reply Command.loadFilter.code w.tag .ok .nothing } := by
  simp only [State.abandonDecision, h, State.applyWrites_eq, State.releaseSlot_eq]
  rfl

theorem State.abandonDecision_none {s : State} (h : s.engine = none) : s.abandonDecision = s := by
  simp only [State.abandonDecision, h]

theorem abandonDecision_committed (s : State) : s.abandonDecision.committed = s.committed := by
  cases hengine : s.engine with
  | none => rw [State.abandonDecision_none hengine]
  | some d =>
    have hsame : (ended s d.gate d.tap).waitingActivation = s.waitingActivation := rfl
    rw [State.abandonDecision_eq hengine, State.committed_eq, State.committed_eq]
    simp only [List.length_append, List.length_map, List.length_nil, hsame]
    omega

theorem applyActivation_committed (s : State) : s.applyActivation.committed = s.committed := by
  rw [State.applyActivation_eq, State.committed_eq, State.committed_eq]
  cases s.waitingActivation with
  | none => simp
  | some w =>
    simp only [List.length_append, List.length_singleton, Option.toList_some, Option.toList_none, List.length_nil]
    omega

theorem modesSent_committed (s : State) (sv : ServiceState) :
    (modesSent { s with service := sv }).committed = s.committed := rfl

theorem musterEntry_committed (s : State) : s.musterEntry.committed = s.committed := by
  have hengine := (applyActivation_committed _).trans (abandonDecision_committed s)
  have hgates := foldl_keeps (P := fun t => t.committed = s.committed)
    (fun t g ht => (musterGate_committed t g).trans ht) (List.finRange 16) hengine
  have hberths := foldl_keeps (P := fun t => t.committed = s.committed)
    (fun t b ht => (musterBerth_committed t b).trans ht) (List.finRange 4) hgates
  rw [State.musterEntry, State.refreshModes_eq, modesSent_committed, hberths]

/-- A reservation leaves at most one frame more. -/
theorem reserved_committed {s : State} (h : s.committed ≤ 47) : (Claims.reserved s).committed ≤ 48 := by
  have halerted (s1 : State) (masked : Bool) (a : Alert) : (alerted s1 masked a).committed ≤ s1.committed + 1 := by
    rw [← State.alert_eq_alerted, State.alert]
    split
    · exact Nat.le_succ _
    · split
      · exact Nat.le_succ _
      · simp only [State.committed_eq, List.length_append, List.length_singleton]
        omega
  unfold Claims.reserved
  split
  · exact (halerted _ _ _).trans (Nat.succ_le_succ h)
  · exact le_trans h (by decide)

section
variable {c : Instr} {P : State → Prop}

/-! ### Service Control -/

theorem Keeps.setTime (h : Keeps c P) {s : State} (hs : P s) (hroom : s.committed ≤ 47) (tag : Byte) (a : SetTimeArgs) :
    P (setTime tag a s) := by
  obtain ⟨r, d, heq⟩ | ⟨hsecond, slots, hslots, heq⟩ := setTime_cases tag a s
  · rw [heq]
    exact h.replied hs (by omega) _ _ _ _
  · rw [heq]
    exact h.replied (h.timed (h.timeSet s ⟨a.day.toNat, a.second.toNat⟩ slots hs ⟨a.day.isLt, hsecond⟩ hslots) 0 s.timeBase)
      (le_trans hroom (by decide)) _ _ _ _

theorem Keeps.setLimits (h : Keeps .setLimits P) {s : State} (hs : P s) (hroom : s.committed ≤ 47) (tag : Byte)
    (a : SetLimitsArgs) : P (setLimits tag a s) := by
  obtain ⟨r, d, heq⟩ | ⟨hservice, hunset, hrange, heq⟩ := setLimits_cases tag a s
  · rw [heq]
    exact h.replied hs (by omega) _ _ _ _
  · rw [heq]
    exact h.replied (h.limited s a.ceilings rfl hs hservice hunset hrange) (le_trans hroom (by decide)) _ _ _ _

theorem Keeps.setParameters (h : Keeps c P) {s : State} (hs : P s) (hroom : s.committed ≤ 47) (tag : Byte)
    (a : SetParametersArgs) : P (setParameters tag a s) := by
  obtain ⟨r, d, heq⟩ | ⟨p, q, r, d, hrange, heq⟩ := setParameters_cases tag a s
  · rw [heq]
    exact h.replied hs (by omega) _ _ _ _
  · rw [heq]
    exact h.replied (h.armed (h.adjusted s p hs hrange) q s.masks) (le_trans hroom (by decide)) _ _ _ _

theorem Keeps.setAlertMask (h : Keeps c P) {s : State} (hs : P s) (hroom : s.committed ≤ 47) (tag : Byte)
    (a : SetAlertMaskArgs) : P (setAlertMask tag a s) := by
  obtain ⟨m, r, d, heq⟩ := setAlertMask_cases tag a s
  rw [heq]
  exact h.replied (h.armed hs s.queueHighArmed m) (le_trans hroom (by decide)) _ _ _ _

theorem Keeps.startService (h : Keeps c P) {s : State} (hs : P s) (hroom : s.committed ≤ 47) (tag : Byte) :
    P (startService tag s) := by
  obtain ⟨r, d, heq⟩ | ⟨hservice, hclock, hceilings, hactive, heq | heq⟩ := startService_cases tag s
  · rw [heq]
    exact h.replied hs (by omega) _ _ _ _
  · rw [heq]
    exact h.replied (h.mustered s hs (.inr ⟨hservice, hclock, hceilings, hactive⟩))
      (by rw [musterEntry_committed]; omega) _ _ _ _
  · rw [heq, State.refreshModes_eq]
    exact h.replied (h.started s hs hservice hclock hceilings hactive) (le_trans hroom (by decide)) _ _ _ _

theorem Keeps.stopService (h : Keeps c P) {s : State} (hs : P s) (hroom : s.committed ≤ 47) (tag : Byte) :
    P (stopService tag s) := by
  obtain ⟨r, d, heq⟩ | ⟨hberths, hgates, heq⟩ := stopService_cases tag s
  · rw [heq]
    exact h.replied hs (by omega) _ _ _ _
  · rw [heq, State.refreshModes_eq]
    exact h.replied (h.stopped s hs hberths hgates) (le_trans hroom (by decide)) _ _ _ _

/-! ### The tables -/

theorem Keeps.gateConfig (h : Keeps c P) {s : State} (hs : P s) (hroom : s.committed ≤ 47) (tag : Byte)
    (a : GateConfigArgs) : P (gateConfig tag a s) := by
  obtain ⟨r, d, heq⟩ | ⟨g, k, hk, heq⟩ := gateConfig_cases tag a s
  · rw [heq]
    exact h.replied hs (by omega) _ _ _ _
  · have hcommitted : ((s.setGate g k).refreshMode g).committed = s.committed := by
      rw [State.refreshMode_eq]
      rfl
    rw [heq]
    exact h.replied (h.configured s g k hs hk) (by omega) _ _ _ _

theorem Keeps.loadFilter (h : Keeps c P) {s : State} (hs : P s) (hroom : s.committed ≤ 47) (tag : Byte)
    (a : LoadFilterArgs) : P (loadFilter tag a s) := by
  obtain ⟨r, d, heq⟩ | ⟨w, ⟨hsearching, heq⟩ | heq⟩ := loadFilter_cases tag a s
  · rw [heq]
    exact h.replied hs (by omega) _ _ _ _
  · rw [heq]
    exact h.writeWaits s w hs hsearching (by omega)
  · rw [heq]
    exact h.replied (h.filtered hs (s.filters.set w.index w.entry)) (le_trans hroom (by decide)) _ _ _ _

theorem setBank_committed (s : State) (n : BankName) (b : Bank) : (s.setBank n b).committed = s.committed := by
  cases n <;> rfl

/-- The contents read for an entry are of its table's shape. -/
theorem shapeFits_of_entryOf {i : TableIndex} {bs : List Byte} {e : TableEntry} (h : entryOf i bs = some e) : shapeFits i e := by
  cases i with
  | product i =>
    obtain ⟨kind, -, rfl⟩ := Option.map_eq_some_iff.mp h
    trivial
  | band i =>
    obtain ⟨curve, -, hband⟩ := Option.bind_eq_some_iff.mp h
    dsimp only at hband
    split at hband
    · cases hband
      trivial
    · cases hband
  | curve i =>
    obtain ⟨p1, -, hp1⟩ := Option.bind_eq_some_iff.mp h
    obtain ⟨p2, -, hp2⟩ := Option.bind_eq_some_iff.mp hp1
    obtain ⟨p3, -, hcurve⟩ := Option.bind_eq_some_iff.mp hp2
    dsimp only at hcurve
    split at hcurve
    · cases hcurve
      trivial
    · cases hcurve
  | concession i =>
    simp only [entryOf] at h
    split at h
    · cases h
      trivial
    · cases h

theorem Keeps.loadFare (h : Keeps .loadFare P) {s : State} (hs : P s) (hroom : s.committed ≤ 47) (tag : Byte)
    (a : LoadFareArgs) : P (loadFare tag a s) := by
  obtain ⟨r, d, heq⟩ | ⟨n, i, e, hheld, hentry, heq⟩ := loadFare_cases tag a s
  · rw [heq]
    exact h.replied hs (by omega) _ _ _ _
  · rw [heq]
    exact h.replied (h.loaded s n i e rfl hs hheld (shapeFits_of_entryOf hentry)) (by rw [setBank_committed]; omega) _ _ _ _

theorem Keeps.clearBank (h : Keeps .clearBank P) {s : State} (hs : P s) (hroom : s.committed ≤ 47) (tag a : Byte) :
    P (clearBank tag a s) := by
  obtain ⟨r, d, heq⟩ | ⟨n, hheld, heq⟩ := clearBank_cases tag a s
  · rw [heq]
    exact h.replied hs (by omega) _ _ _ _
  · rw [heq]
    exact h.replied (h.cleared s n rfl hs hheld) (by rw [setBank_committed]; omega) _ _ _ _

theorem Keeps.activateBank (h : Keeps c P) {s : State} (hs : P s) (hroom : s.committed ≤ 47) (tag : Byte)
    (a : ActivateBankArgs) : P (activateBank tag a s) := by
  obtain ⟨r, d, heq⟩ | ⟨n, hnone, ⟨hbusy, heq⟩ | heq⟩ := activateBank_cases tag a s
  · rw [heq]
    exact h.replied hs (by omega) _ _ _ _
  · rw [heq]
    exact h.activationWaits s _ hs hnone hbusy (by omega)
  · rw [heq]
    exact h.replied (h.activated s n hs hnone) (le_trans hroom (by decide)) _ _ _ _

theorem Keeps.readEntry (h : Keeps c P) {s : State} (hs : P s) (hroom : s.committed ≤ 47) (tag : Byte) (a : ReadEntryArgs) :
    P (readEntry tag a s) := by
  obtain ⟨r, d, heq⟩ := readEntry_cases tag a s
  rw [heq]
  exact h.replied hs (by omega) _ _ _ _

theorem Keeps.loadSlot (h : Keeps c P) {s : State} (hs : P s) (hroom : s.committed ≤ 47) (tag : Byte) (a : LoadSlotArgs) :
    P (loadSlot tag a s) := by
  obtain ⟨r, d, heq⟩ | ⟨k, hfree, hlow, hhigh, heq⟩ := loadSlot_cases tag a s
  · rw [heq]
    exact h.replied hs (by omega) _ _ _ _
  · rw [heq]
    exact h.replied (h.slotLoaded s k a.media a.limit.toNat hs hfree hlow hhigh) (le_trans hroom (by decide)) _ _ _ _

theorem Keeps.clearSlot (h : Keeps c P) {s : State} (hs : P s) (hroom : s.committed ≤ 47) (tag a : Byte) :
    P (clearSlot tag a s) := by
  obtain ⟨r, d, heq⟩ | ⟨k, hfree, heq⟩ := clearSlot_cases tag a s
  · rw [heq]
    exact h.replied hs (by omega) _ _ _ _
  · rw [heq]
    exact h.replied (h.slotCleared s k hs hfree) (le_trans hroom (by decide)) _ _ _ _

/-! ### Sailings, records and the uplink -/

theorem Keeps.openSailing (h : Keeps c P) {s : State} (hs : P s) (hroom : s.committed ≤ 47) (tag : Byte)
    (a : OpenSailingArgs) : P (openSailing tag a s) := by
  obtain ⟨r, d, heq⟩ | ⟨b, line, r, d, hservice, hclosed, hcapacity, hfree, heq⟩ := openSailing_cases tag a s
  · rw [heq]
    exact h.replied hs (by omega) _ _ _ _
  · rw [heq, State.reserveSlot_eq_reserved]
    exact h.replied (h.sailingOpened s b a.sailing line a.capacity.toNat s.now hs hservice hclosed hcapacity hfree)
      (le_trans (reserved_committed hroom) (by decide)) _ _ _ _

theorem Keeps.depart (h : Keeps c P) {s : State} (hs : P s) (hroom : s.committed ≤ 47) (tag a : Byte) :
    P (depart tag a s) := by
  obtain ⟨r, d, heq⟩ | ⟨b, sl, r, d, hsl, ⟨hends, heq⟩ | ⟨⟨hboarding, hheld⟩, heq⟩⟩ := depart_cases tag a s
  · rw [heq]
    exact h.replied hs (by omega) _ _ _ _
  · rw [heq, State.closeSailing_eq_closed hsl]
    exact h.replied (h.sailingClosed s b sl s.now hs hsl hends) (le_trans hroom (by decide)) _ _ _ _
  · have hcommitted : ((s.setSailing b (some { sl with state := .closing })).noteChange b .left).committed = s.committed := by
      rw [State.noteChange_eq]
      rfl
    rw [heq]
    exact h.replied (h.sailingLeaves s b sl hs hsl hboarding hheld) (by omega) _ _ _ _

theorem Keeps.fetchRecords (h : Keeps c P) {s : State} (hs : P s) (hroom : s.committed ≤ 47) (tag n : Byte) :
    P (fetchRecords tag n s) := by
  obtain ⟨fs, hlen, heq⟩ := fetchRecords_cases tag n s
  rw [heq]
  exact h.produced s fs hs (by omega)

theorem Keeps.ackRecords (h : Keeps c P) {s : State} (hs : P s) (hroom : s.committed ≤ 47) (tag : Byte) (n : SeqNumber) :
    P (ackRecords tag n s) := by
  obtain ⟨r, d, heq⟩ | ⟨i, q, r, d, heq⟩ := ackRecords_cases tag n s
  · rw [heq]
    exact h.replied hs (by omega) _ _ _ _
  · rw [heq]
    exact h.replied (h.armed (h.acked s i hs) q s.masks) (le_trans hroom (by decide)) _ _ _ _

theorem Keeps.statusCommand (h : Keeps c P) {s : State} (hs : P s) (hroom : s.committed ≤ 47) (tag : Byte)
    (a : Option Byte) : P (statusCommand tag a s) := by
  obtain ⟨fs, hlen, heq | ⟨g, heq⟩⟩ := statusCommand_cases tag a s
  · rw [heq]
    exact h.produced s fs hs (by omega)
  · rw [heq]
    exact h.counted _ g 0 0 (h.produced s fs hs (by omega)) (fun _ => Nat.zero_le _) fun _ => Nat.zero_le _

theorem Keeps.unknownCommand (h : Keeps c P) {s : State} (hs : P s) : Gives (execUnknownCommand s) P := by
  unfold execUnknownCommand
  split
  · exact .next hs
  · rename_i f rest hlist
    split
    · rename_i hcan
      obtain ⟨-, hroom⟩ := Bool.and_eq_true_iff.mp hcan.1
      refine .next (h.produced _ _ (h.taken s f rest hs hlist) ?_)
      exact le_trans (Nat.succ_le_succ (of_decide_eq_true hroom)) (by decide)
    · exact .next hs

theorem Keeps.uplinkFrameSent (h : Keeps c P) {s : State} (hs : P s) : Gives (execUplinkFrameSent s) P := by
  unfold execUplinkFrameSent
  split
  · exact .next hs
  · rename_i f rest hlist
    split
    · have hsent := h.sent s f rest hs hlist
      exact .next (h.pinned hsent s.laneOut s.laneTx _)
    · exact .next hs

theorem Keeps.laneFrameSent (h : Keeps c P) {s : State} (hs : P s) (g : Gate) : Gives (execLaneFrameSent g s) P := by
  unfold execLaneFrameSent
  split
  · exact .next hs
  · split
    · exact .next (h.pinned hs _ _ s.uplinkTx)
    · exact .next hs

/-! ### Muster -/

theorem Keeps.musterStart (h : Keeps c P) {s : State} (hs : P s) (hroom : s.committed ≤ 47) (tag : Byte) :
    P (musterStart tag s) := by
  have hrequested : P { s with commandRequest := true } := h.requested hs s.musterLine true s.resetLine
  unfold Machine.musterStart
  dsimp only
  split
  · rename_i hservice
    refine h.replied (h.mustered _ hrequested (.inl hservice)) ?_ _ _ _ _
    rw [musterEntry_committed]
    exact le_trans hroom (by decide)
  · exact h.replied hrequested (le_trans hroom (by decide)) _ _ _ _

theorem musterExit_committed (s : State) : s.musterExit.committed = s.committed := by
  rw [State.musterExit, State.refreshModes_eq]
  rfl

theorem Keeps.musterEnd (h : Keeps c P) {s : State} (hs : P s) (hroom : s.committed ≤ 47) (tag : Byte) :
    P (musterEnd tag s) := by
  have hrequested : P { s with commandRequest := false } := h.requested hs s.musterLine false s.resetLine
  unfold Machine.musterEnd
  dsimp only
  split
  · rename_i hends
    refine h.replied (h.resumed _ hrequested hends.1) ?_ _ _ _ _
    rw [musterExit_committed]
    exact le_trans hroom (by decide)
  · exact h.replied hrequested (le_trans hroom (by decide)) _ _ _ _

theorem Keeps.musterLineAsserted (h : Keeps c P) {s : State} (hs : P s) : Gives (execMusterLineAsserted s) P := by
  have hrequested : P { s with musterLine := true } := h.requested hs true s.commandRequest s.resetLine
  unfold execMusterLineAsserted
  dsimp only
  split
  · exact .next hs
  · split
    · rename_i henters
      exact .next (h.mustered _ hrequested (.inl henters.2))
    · exact .next hrequested

theorem Keeps.musterLineReleased (h : Keeps c P) {s : State} (hs : P s) : Gives (execMusterLineReleased s) P := by
  have hrequested : P { s with musterLine := false } := h.requested hs false s.commandRequest s.resetLine
  unfold execMusterLineReleased
  dsimp only
  split
  · split
    · rename_i hends
      exact .next (h.resumed _ hrequested hends.2.1)
    · exact .next hrequested
  · exact .next hs

/-! ### Resets and the clock -/

theorem Keeps.resetCommand (h : Keeps c P) {s : State} (hs : P s) (hroom : s.committed ≤ 47) (tag : Byte) :
    P (resetCommand tag s) :=
  h.phased _ .resetTaken (h.replied hs (by omega) .reset tag .ok .nothing) (by decide)

theorem Keeps.commandResetBegin (h : Keeps c P) {s : State} (hs : P s) : Gives (execCommandResetBegin s) P := by
  unfold execCommandResetBegin
  split
  · exact .next (h.began s _ hs)
  · exact .next hs

theorem Keeps.commandResetEnd (h : Keeps .commandResetEnd P) {s : State} (hs : P s) : Gives (execCommandResetEnd s) P := by
  unfold execCommandResetEnd
  split
  · rename_i t _
    have htimed : P (s.timeReaches (t + 1)) := h.timed hs _ _
    exact .next (h.cameOut _ .command (.inl rfl) htimed)
  · exact .next hs

theorem Keeps.powerUpComplete (h : Keeps .powerUpComplete P) {s : State} (hs : P s) : Gives (execPowerUpComplete s) P := by
  unfold execPowerUpComplete
  split
  · split
    · exact .next (h.phased s _ hs (by decide))
    · exact .next (h.cameOut s .power (.inr (.inl rfl)) hs)
  · exact .next hs

theorem Keeps.resetLineAsserted (h : Keeps c P) {s : State} (hs : P s) : Gives (execResetLineAsserted s) P := by
  unfold execResetLineAsserted
  split
  · exact .next hs
  · have hasserted : P { s with resetLine := true } := h.requested hs s.musterLine s.commandRequest true
    exact .next (h.began { s with resetLine := true } .lineReset hasserted)

theorem Keeps.resetLineReleased (h : Keeps .resetLineReleased P) {s : State} (hs : P s) :
    Gives (execResetLineReleased s) P := by
  have hreleased : P { s with resetLine := false } := h.requested hs s.musterLine s.commandRequest false
  unfold execResetLineReleased
  dsimp only
  split
  · split
    · exact .next (h.cameOut _ .line (.inr (.inr rfl)) hreleased)
    · exact .next (h.cameOut _ .power (.inr (.inr rfl)) hreleased)
    · exact .next hreleased
  · exact .next hs

theorem Keeps.clockSecond (h : Keeps c P) {s : State} (hs : P s) : Gives (execClockSecond s) P := by
  unfold execClockSecond
  have htenths : P s.tenTenths := by
    rw [State.tenTenths_eq]
    exact h.timed hs _ _
  refine .next ?_
  generalize s.tenTenths = s1 at htenths ⊢
  unfold State.secondPasses
  split
  · exact htenths
  · rename_i t hclock
    dsimp only
    split
    · exact h.secondPassed s1 t _ htenths hclock (.inr rfl)
    · exact h.secondPassed s1 t _ htenths hclock (.inl rfl)

end

/-! ### Every command -/

/-- A law that every move of a command keeps is kept by the command, which answers a next state. -/
theorem Keeps.exec {c : Instr} {P : State → Prop} (h : Keeps c P) {s : State} (hs : P s) : Gives (exec c s) P := by
  cases c with
  | tap g bytes => exact (em _).elim (fun hp => ⟨_, if_pos hp, h.laneBytes hs g bytes⟩) fun hp => ⟨s, if_neg hp, hs⟩
  | passage g bytes => exact (em _).elim (fun hp => ⟨_, if_pos hp, h.laneBytes hs g bytes⟩) fun hp => ⟨s, if_neg hp, hs⟩
  | mgmtFrameArrival bytes =>
    exact (em _).elim (fun hp => ⟨_, if_pos hp, h.uplinkBytes hs bytes⟩) fun hp => ⟨s, if_neg hp, hs⟩
  | tapWaitExpiry g tap => exact h.tapWaitExpiry hs g tap
  | passageWindowExpiry g tap => exact h.passageWindowExpiry hs g tap
  | grant => exact h.grant hs
  | sailingStage => exact h.sailingStage hs
  | cardDataStage => exact h.cardDataStage hs
  | filterSearch => exact h.filterSearch hs
  | filterSearchComplete => exact h.filterSearchComplete hs
  | productStage => exact h.productStage hs
  | capacityStage => exact h.capacityStage hs
  | productKindStage => exact h.productKindStage hs
  | fareStage => exact h.fareStage hs
  | verdict => exact h.verdict hs
  | unknownCommand => exact h.unknownCommand hs
  | setTime => exact h.takeFrame hs fun tag a _ hs hroom => h.setTime hs hroom tag a
  | setLimits => exact h.takeFrame hs fun tag a _ hs hroom => h.setLimits hs hroom tag a
  | setParameters => exact h.takeFrame hs fun tag a _ hs hroom => h.setParameters hs hroom tag a
  | setAlertMask => exact h.takeFrame hs fun tag a _ hs hroom => h.setAlertMask hs hroom tag a
  | gateConfig => exact h.takeFrame hs fun tag a _ hs hroom => h.gateConfig hs hroom tag a
  | loadFilter => exact h.takeFrame hs fun tag a _ hs hroom => h.loadFilter hs hroom tag a
  | loadFare => exact h.takeFrame hs fun tag a _ hs hroom => h.loadFare hs hroom tag a
  | clearBank => exact h.takeFrame hs fun tag a _ hs hroom => h.clearBank hs hroom tag a
  | activateBank => exact h.takeFrame hs fun tag a _ hs hroom => h.activateBank hs hroom tag a
  | readEntry => exact h.takeFrame hs fun tag a _ hs hroom => h.readEntry hs hroom tag a
  | loadSlot => exact h.takeFrame hs fun tag a _ hs hroom => h.loadSlot hs hroom tag a
  | clearSlot => exact h.takeFrame hs fun tag a _ hs hroom => h.clearSlot hs hroom tag a
  | openSailing => exact h.takeFrame hs fun tag a _ hs hroom => h.openSailing hs hroom tag a
  | depart => exact h.takeFrame hs fun tag a _ hs hroom => h.depart hs hroom tag a
  | musterStart => exact h.takeFrame hs fun tag _ _ hs hroom => h.musterStart hs hroom tag
  | musterEnd => exact h.takeFrame hs fun tag _ _ hs hroom => h.musterEnd hs hroom tag
  | startService => exact h.takeFrame hs fun tag _ _ hs hroom => h.startService hs hroom tag
  | stopService => exact h.takeFrame hs fun tag _ _ hs hroom => h.stopService hs hroom tag
  | fetchRecords => exact h.takeFrame hs fun tag a _ hs hroom => h.fetchRecords hs hroom tag a
  | ackRecords => exact h.takeFrame hs fun tag a _ hs hroom => h.ackRecords hs hroom tag a
  | status => exact h.takeFrame hs fun tag a _ hs hroom => h.statusCommand hs hroom tag a
  | reset => exact h.takeFrame hs fun tag _ _ hs hroom => h.resetCommand hs hroom tag
  | uplinkFrameSent => exact h.uplinkFrameSent hs
  | laneFrameSent g => exact h.laneFrameSent hs g
  | commandResetBegin => exact h.commandResetBegin hs
  | commandResetEnd => exact h.commandResetEnd hs
  | powerUp => exact .next (h.began s _ hs)
  | powerUpComplete => exact h.powerUpComplete hs
  | resetLineAsserted => exact h.resetLineAsserted hs
  | resetLineReleased => exact h.resetLineReleased hs
  | musterLineAsserted => exact h.musterLineAsserted hs
  | musterLineReleased => exact h.musterLineReleased hs
  | clockSecond => exact h.clockSecond hs

/-- A law that every move keeps, and that does not speak of the queue, is kept by every step. -/
theorem Keeps.step {P : State → Prop} (h : ∀ c, Keeps c P) (hqueue : ∀ (s : State) rest, P s → P { s with pending := rest })
    {s t : State} (hs : P s) (hstep : step s = .next t) : P t := by
  refine step_keeps hqueue (fun s hs => (h .grant).timed hs _ _) (fun c s t hs ht => ?_) hs hstep
  obtain ⟨t', ht', hP⟩ := (h c).exec hs
  rw [ht] at ht'
  cases ht'
  exact hP

end Sys2Proof.Machine
end

section
/-! The moves taken apart: laws that tie no counts together are kept by every move when they are kept by the updates that the
moves are made of. -/
namespace Sys2Proof.Machine
open Sys2Proof.Claims

/-- The saturating counts of a sailing are in range (R60, R69 to R71). -/
def Sailing.countsFit (sl : Sailing) : Prop := sl.crew ≤ 255 ∧ sl.refused ≤ 65535 ∧ sl.revenue ≤ 4294967295

/-- A law kept by each of the updates that the moves of command `c` are made of. -/
structure KeepsParts (c : Instr) (P : State → Prop) : Prop where
  quiet (s : State) laneRx laneOut laneTx lastGranted filters lastPriority slots reserved queueHighArmed musterLine
    commandRequest tenths timeBase masks resetLine uplinkRx uplinkTx freeCount : P s →
    P { s with
      laneRx := laneRx, laneOut := laneOut, laneTx := laneTx, lastGranted := lastGranted, filters := filters,
      lastPriority := lastPriority, slots := slots, reserved := reserved, queueHighArmed := queueHighArmed,
      musterLine := musterLine, commandRequest := commandRequest, tenths := tenths, timeBase := timeBase, masks := masks,
      resetLine := resetLine, uplinkRx := uplinkRx, uplinkTx := uplinkTx, freeCount := freeCount }
  taken (s : State) f rest : P s → s.receiveList = f :: rest → P { s with receiveList := rest }
  produced (s : State) fs : P s → s.committed + fs.length ≤ 64 → P { s with outgoing := s.outgoing ++ fs }
  arrived (s : State) f : P s → s.receiveList.length < 8 → P { s with receiveList := s.receiveList ++ [f] }
  sent (s : State) f rest : P s → s.outgoing = f :: rest → P { s with outgoing := rest }
  counted (s : State) (g : Gate) bad strays : P s → (s.gates[g].badFrames ≤ 255 → bad ≤ 255) →
    (s.gates[g].strays ≤ 255 → strays ≤ 255) → P (s.setGate g { s.gates[g] with badFrames := bad, strays := strays })
  listed (s : State) (v : Vector GateContext 16) : P s → (∀ g : Gate, ∃ l, v[g] = { s.gates[g] with list := l }) →
    P { s with gates := v }
  ended (s : State) (g : Gate) tap : P s → P (ended s g tap)
  configured (s : State) (g : Gate) k : P s →
    (s.gates[g].state = .active ∧ k = s.gates[g].disable ∨
      s.gates[g].state = .disabled ∧ ∃ v, k = s.gates[g].configure v) → P ((s.setGate g k).refreshMode g)
  recorded (s : State) body : P s → P (recorded s body)
  sailed (s : State) (v : Vector (Option Sailing) 4) : P s →
    ((∀ b : BerthNo, ∀ sl ∈ s.sailings[b], sl.countsFit) → ∀ b : BerthNo, ∀ sl ∈ v[b], sl.countsFit) →
    P { s with sailings := v }
  decided (s : State) e : P s → e.isSome = s.engine.isSome →
    (∀ d ∈ s.engine, d.stage = .searching → ∀ d' ∈ e, d'.stage = .searching) → P { s with engine := e }
  begun (s : State) d : P s → s.engine = none → P { s with engine := some d }
  searched (s : State) d d' out : P s → s.engine = some d →
    (s.committed ≤ 64 → out.length + (if s.waitingActivation.isSome then 1 else 0) ≤ 64) →
    P { s with engine := some d', waitingWrites := [], outgoing := out }
  idle (s : State) d : P s → s.engine = some d → d.stage ≠ .searching → P (engineIdle s)
  abandoned (s : State) : P s → P s.abandonDecision.applyActivation
  writeWaits (s : State) w : P s → s.searching = true → s.committed < 64 →
    P { s with waitingWrites := s.waitingWrites ++ [w] }
  loaded (s : State) n i e : c = .loadFare → P s → s.bankHeld n = false → shapeFits i e →
    P (s.setBank n ((s.bank n).load i e))
  cleared (s : State) n : c = .clearBank → P s → s.bankHeld n = false → P (s.setBank n Bank.empty)
  activated (s : State) n : P s → s.waitingActivation = none → P { s with activeBank := some n }
  activationWaits (s : State) w : P s → s.waitingActivation = none → s.engine.isSome = true → s.committed < 64 →
    P { s with waitingActivation := some w }
  timeSet (s : State) t : P s → t.inRange → P { s with clock := some t }
  secondPassed (s : State) t : P s → s.clock = some t → P { s with clock := some t.next }
  limited (s : State) (tops : Vector Nat 4) : c = .setLimits → P s → (∀ b : BerthNo, 1 ≤ tops[b] ∧ tops[b] ≤ 999) →
    P { s with ceilings := some tops }
  adjusted (s : State) p : P s → p.inRange → P { s with params := p }
  acked (s : State) i : P s → P { s with written := s.written.drop i }
  served (s : State) sv : P s → P (modesSent { s with service := sv })
  phased (s : State) p : P s → p ≠ .running → P { s with phase := p }
  began (s : State) p : P s → P (dropped s p)
  cameOut (s : State) k : (c = .commandResetEnd ∨ c = .powerUpComplete ∨ c = .resetLineReleased) → P s → P (s.comeOut k)

/-! ### Sailings changed one at a time keep their counts in range -/

theorem countsFit_set {v : Vector (Option Sailing) 4} (b : BerthNo) {o : Option Sailing} (ho : ∀ sl ∈ o, sl.countsFit)
    (hv : ∀ b : BerthNo, ∀ sl ∈ v[b], sl.countsFit) (b' : BerthNo) : ∀ sl ∈ (v.set b o)[b'], sl.countsFit := by
  rw [getElem_set_fin]
  split
  · exact ho
  · exact hv b'

theorem countsFit_set_some {v : Vector (Option Sailing) 4} (b : BerthNo) {sl : Sailing} (hsl : sl.countsFit)
    (hv : ∀ b : BerthNo, ∀ sl ∈ v[b], sl.countsFit) (b' : BerthNo) : ∀ x ∈ (v.set b (some sl))[b'], x.countsFit :=
  countsFit_set b (fun _ h => Option.some.inj h ▸ hsl) hv b'

theorem countsFit_set_map {v : Vector (Option Sailing) 4} {b : BerthNo} {f : Sailing → Sailing}
    (hf : ∀ sl, sl.countsFit → (f sl).countsFit) (hv : ∀ b : BerthNo, ∀ sl ∈ v[b], sl.countsFit) (b' : BerthNo) :
    ∀ sl ∈ (v.set b (v[b].map f))[b'], sl.countsFit := by
  refine countsFit_set b (fun sl hsl => ?_) hv b'
  obtain ⟨sl', hsl', rfl⟩ := Option.map_eq_some_iff.mp hsl
  exact hf sl' (hv b sl' hsl')

section
variable {c : Instr} {P : State → Prop}

theorem KeepsParts.lanes (h : KeepsParts c P) {s : State} (hs : P s) (laneOut : Vector (List GateFrame) 16) :
    P { s with laneOut := laneOut } :=
  h.quiet s s.laneRx laneOut s.laneTx s.lastGranted s.filters s.lastPriority s.slots s.reserved s.queueHighArmed s.musterLine
    s.commandRequest s.tenths s.timeBase s.masks s.resetLine s.uplinkRx s.uplinkTx s.freeCount hs

theorem KeepsParts.slotted (h : KeepsParts c P) {s : State} (hs : P s) (slots : Vector (Option PassSlot) 64) :
    P { s with slots := slots } :=
  h.quiet s s.laneRx s.laneOut s.laneTx s.lastGranted s.filters s.lastPriority slots s.reserved s.queueHighArmed s.musterLine
    s.commandRequest s.tenths s.timeBase s.masks s.resetLine s.uplinkRx s.uplinkTx s.freeCount hs

/-- A slot more is reserved, as the queue high flag stands. -/
theorem KeepsParts.held (h : KeepsParts c P) {s : State} (hs : P s) (reserved : Nat) (queueHighArmed : Bool) :
    P { s with reserved := reserved, queueHighArmed := queueHighArmed } :=
  h.quiet s s.laneRx s.laneOut s.laneTx s.lastGranted s.filters s.lastPriority s.slots reserved queueHighArmed s.musterLine
    s.commandRequest s.tenths s.timeBase s.masks s.resetLine s.uplinkRx s.uplinkTx s.freeCount hs

theorem KeepsParts.alerted (h : KeepsParts c P) {s : State} (hs : P s) (masked : Bool) (a : Alert) :
    P (alerted s masked a) := by
  rw [← State.alert_eq_alerted, State.alert]
  split
  · exact hs
  · split
    · exact hs
    · rename_i hroom
      exact h.produced s [.alert a] hs (Nat.lt_of_not_le hroom)

theorem KeepsParts.reserved (h : KeepsParts c P) {s : State} (hs : P s) : P (Claims.reserved s) := by
  unfold Claims.reserved
  split
  · exact h.alerted (h.held hs (s.reserved + 1) false) _ _
  · exact h.held hs (s.reserved + 1) s.queueHighArmed

theorem KeepsParts.onSlot (h : KeepsParts c P) {s : State} (hs : P s) (k : Option SlotNo) (f : PassSlot → PassSlot) :
    P (Claims.onSlot s k f) := h.slotted hs _

theorem KeepsParts.onSailingOf (h : KeepsParts c P) {s : State} (hs : P s) (g : Gate) {f : Sailing → Sailing}
    (hf : ∀ sl, sl.countsFit → (f sl).countsFit) : P (onSailingOf s g f) := by
  refine h.sailed s _ hs fun hfit b => ?_
  split
  · exact countsFit_set_map hf hfit b
  · exact hfit b

/-- The decision in progress is changed in its working items, not in its stage. -/
theorem KeepsParts.noted (h : KeepsParts c P) {s : State} (hs : P s) {f : Decision → Decision}
    (hf : ∀ d, (f d).stage = d.stage) : P { s with engine := s.engine.map f } := by
  refine h.decided s _ hs (Option.isSome_map ..) fun d hd hsearching d' hd' => ?_
  obtain ⟨d'', hd'', rfl⟩ := Option.map_eq_some_iff.mp hd'
  rw [hf, Option.mem_unique hd'' hd, hsearching]

theorem KeepsParts.closed (h : KeepsParts c P) {s : State} (hs : P s) (b : BerthNo) (sl : Sailing) (now : ServiceTime) :
    P (closed s b sl now) := by
  have hrecorded := h.recorded s (.summary (summaryFields b sl now)) hs
  have hlisted := h.listed (Claims.recorded s (.summary (summaryFields b sl now))) (s.gates.map fun c =>
      if c.config.berth = some b then
        { c with list := c.list.map fun t => match t.state with
            | .awaiting a => { t with state := .awaiting { a with place := if a.place = .crew then .nothing else a.place } }
            | _ => t }
      else c) hrecorded fun g => by
    rw [getElem_map_fin]
    split
    · exact ⟨_, rfl⟩
    · exact ⟨s.gates[g].list, rfl⟩
  have hsailed := h.sailed _ (s.sailings.set b none) hlisted fun hfit => countsFit_set b (by simp) hfit
  exact h.noted (f := fun d => if d.found.map (·.berth) = some b then { d with change := .closed } else d) hsailed
    fun d => by split <;> rfl

theorem KeepsParts.closedIfEmpty (h : KeepsParts c P) {s : State} (hs : P s) (g : Gate) (now : ServiceTime) :
    P (closedIfEmpty s g now) := by
  unfold Claims.closedIfEmpty
  split
  · exact hs
  · split
    · exact hs
    · split
      · exact h.closed hs _ _ now
      · exact hs

theorem KeepsParts.boarded (h : KeepsParts c P) {s : State} (hs : P s) (g : Gate) (t : Transaction) (a : Awaiting)
    (now : ServiceTime) : P (boarded s g t a now) := by
  refine h.ended _ g t.tap (h.recorded _ _ (h.onSlot (h.onSailingOf hs g fun sl hfit => ?_) a.slot _))
  obtain ⟨hcrew, hrefused, hrevenue⟩ := hfit
  split
  · exact ⟨hcrew, hrefused, min_le_left _ _⟩
  · exact ⟨min_le_left _ _, hrefused, hrevenue⟩
  · exact ⟨hcrew, hrefused, hrevenue⟩

theorem KeepsParts.notBoarded (h : KeepsParts c P) {s : State} (hs : P s) (g : Gate) (t : Transaction) (a : Awaiting)
    (kind : TapKind) (now : ServiceTime) : P (notBoarded s g t a kind now) := by
  refine h.ended _ g t.tap (h.recorded _ _ (h.onSlot (h.onSailingOf hs g fun sl hfit => ?_) a.slot _))
  split
  · exact hfit
  · exact hfit

/-- The transaction a tap number names is changed at its place in the list. -/
theorem KeepsParts.relisted (h : KeepsParts c P) {s : State} (hs : P s) (g : Gate) (l : List Transaction) :
    P { s with gates := s.gates.set g { s.gates[g] with list := l } } := by
  refine h.listed s _ hs fun g' => ?_
  rw [getElem_set_fin]
  split
  · rename_i hg
    subst hg
    exact ⟨l, rfl⟩
  · exact ⟨s.gates[g'].list, rfl⟩

theorem KeepsParts.placeTaken (h : KeepsParts c P) {s : State} (hs : P s) (b : BerthNo) {f : Sailing → Sailing}
    (hf : ∀ sl, sl.countsFit → (f sl).countsFit) : P (placeTaken s b f) := by
  unfold Claims.placeTaken
  split
  · exact hs
  · rename_i sl hsl
    split
    · exact h.alerted (h.sailed s _ hs fun hfit => countsFit_set_some b (sl := { f sl with alertArmed := false })
        (hf sl (hfit b sl hsl)) hfit) _ _
    · exact h.sailed s _ hs fun hfit => countsFit_set_some b (hf sl (hfit b sl hsl)) hfit

theorem KeepsParts.takePlace (h : KeepsParts c P) {s : State} (hs : P s) (d : Decision) (k : Counting) :
    P (s.takePlace d k) := by
  cases hfound : d.found with
  | none =>
    simp only [State.takePlace, hfound]
    exact hs
  | some f =>
    rw [State.takePlace_eq s hfound]
    cases k
    · dsimp only
      split
      · exact hs
      · exact h.placeTaken hs f.berth fun sl hfit => hfit
    · dsimp only
      split
      · exact h.sailed s _ hs fun hfit =>
          countsFit_set_map (fun sl hfit => ⟨min_le_left _ _, hfit.2.1, hfit.2.2⟩) hfit
      · exact h.placeTaken hs f.berth fun sl hfit => ⟨hfit.1, hfit.2.1, min_le_left _ _⟩

theorem placeTaken_engine (s : State) (b : BerthNo) (f : Sailing → Sailing) : (placeTaken s b f).engine = s.engine := by
  unfold placeTaken
  split
  · rfl
  · split <;> rfl

theorem State.takePlace_engine (s : State) (d : Decision) (k : Counting) : (s.takePlace d k).engine = s.engine := by
  cases hfound : d.found with
  | none => simp only [State.takePlace, hfound]
  | some f =>
    rw [State.takePlace_eq s hfound]
    cases k
    · dsimp only
      split
      · rfl
      · exact placeTaken_engine s f.berth _
    · dsimp only
      split
      · rfl
      · exact placeTaken_engine s f.berth _

theorem KeepsParts.opened (h : KeepsParts c P) {s : State} (hs : P s) {d : Decision} (t : Transaction)
    (hengine : s.engine = some d) (hstage : d.stage = .verdict) : P (engineIdle (s.giveOpen d t)) := by
  have hidle : d.stage ≠ .searching := by rw [hstage]; decide
  cases hcounting : s.gates[d.gate].config.counting with
  | confirmed =>
    rw [State.giveOpen_confirmed s d t hcounting]
    have hgates : (verdictSent (Claims.onSlot (s.takePlace d .confirmed) d.slot fun p =>
        { p with uses := p.uses + 1, inFlight := true }) d.gate t.tap (openOf d s.now)).gates = s.gates :=
      s.takePlace_gates d .confirmed
    refine h.idle _ d ?_ ((s.takePlace_engine d .confirmed).trans hengine) hidle
    rw [← hgates]
    exact h.relisted (h.lanes (h.onSlot (h.takePlace hs d .confirmed) d.slot _) _) d.gate _
  | direct =>
    rw [State.giveOpen_direct s d t hcounting]
    refine h.idle _ d ?_ ((s.takePlace_engine d .direct).trans hengine) hidle
    exact h.ended _ _ _ (h.recorded _ _ (h.lanes (h.onSlot (h.takePlace hs d .direct) d.slot _) _))

theorem KeepsParts.refused (h : KeepsParts c P) {s : State} (hs : P s) {d : Decision} (t : Transaction) (r : Reason)
    (hengine : s.engine = some d) (hstage : d.stage = .verdict) : P (engineIdle (s.giveRefusal d t r)) := by
  have hidle : d.stage ≠ .searching := by rw [hstage]; decide
  rw [State.giveRefusal_eq]
  refine h.idle _ d (h.ended _ _ _ (h.recorded _ _ (h.lanes (h.sailed s _ hs fun hfit b => ?_) _))) hengine hidle
  split
  · split
    · exact hfit b
    · exact countsFit_set_map (f := Sailing.refusedOne) (fun sl hfit => ⟨hfit.1, min_le_left _ _, hfit.2.2⟩) hfit b
  · exact hfit b

/-! ### Muster -/

theorem KeepsParts.musterTx (h : KeepsParts c P) (g : Gate) (s : State) (t : Transaction) (hs : P s) :
    P (State.musterTx g s t) := by
  unfold State.musterTx
  split
  · have hended := h.ended s g t.tap hs
    exact h.lanes hended _
  · rw [State.endNotBoarded_eq]
    exact h.notBoarded hs g t _ .voided _
  · exact hs

theorem KeepsParts.musterBerth (h : KeepsParts c P) (s : State) (b : BerthNo) (hs : P s) : P (s.musterBerth b) := by
  unfold State.musterBerth
  cases hsl : s.sailings[b] with
  | none => exact hs
  | some sl =>
    dsimp only
    split
    · exact h.sailed s _ hs fun hfit => countsFit_set_some b (sl := { sl with state := .suspended }) (hfit b sl hsl) hfit
    · rw [State.closeSailing_eq_closed hsl]
      exact h.closed hs b sl _
    · exact hs

theorem KeepsParts.mustered (h : KeepsParts c P) {s : State} (hs : P s) : P s.musterEntry := by
  unfold State.musterEntry
  rw [State.refreshModes_eq]
  exact h.served _ .muster (foldl_keeps h.musterBerth _
    (foldl_keeps (fun s g hs => foldl_keeps (h.musterTx g) _ hs) _ (h.abandoned s hs)))

theorem Sailing.resumed_countsFit {sl : Sailing} (h : sl.countsFit) : sl.resumed.countsFit := by
  unfold Sailing.resumed
  split <;> exact h

theorem KeepsParts.resumed (h : KeepsParts c P) {s : State} (hs : P s) : P s.musterExit := by
  unfold State.musterExit
  rw [State.refreshModes_eq]
  refine h.served { s with sailings := s.sailings.map fun o => o.map Sailing.resumed } .inService
    (h.sailed s _ hs fun hfit b sl hsl => ?_)
  rw [getElem_map_fin] at hsl
  obtain ⟨sl', hsl', rfl⟩ := Option.map_eq_some_iff.mp hsl
  exact Sailing.resumed_countsFit (hfit b sl' hsl')

/-! ### Stages -/

/-- A stage other than the search does not come out of one. -/
theorem StageStep.not_searching {s : State} {d d' : Decision} {k : CardData} (h : StageStep s d k d') :
    d.stage ≠ .searching := by
  cases h <;> simp_all

/-- A law kept by the parts is kept by the moves. -/
theorem KeepsParts.keeps (h : KeepsParts c P) : Keeps c P where
  quiet s laneRx laneOut laneTx filters lastPriority queueHighArmed musterLine commandRequest tenths timeBase masks resetLine
      uplinkRx uplinkTx freeCount hs :=
    h.quiet s laneRx laneOut laneTx s.lastGranted filters lastPriority s.slots s.reserved queueHighArmed musterLine
      commandRequest tenths timeBase masks resetLine uplinkRx uplinkTx freeCount hs
  taken := h.taken
  produced := h.produced
  arrived := h.arrived
  sent := h.sent
  counted := h.counted
  tapped s g _ hs _ _ _ _ _ := h.relisted hs g _
  retried s g tap _ hs _ _ := h.ended s g tap hs
  passed _ g _ t a now hs _ _ := h.closedIfEmpty (h.boarded hs g t a now) g now
  turned _ g _ t a kind now hs _ _ := h.closedIfEmpty (h.notBoarded hs g t a kind now) g now
  configured := h.configured
  granted s g t hs heligible := by
    obtain ⟨-, -, -, -, hidle, -⟩ := heligible
    rw [State.grantTo, State.reserveSlot_eq_reserved]
    have hlisted : P (s.updateTx g t.tap Transaction.granted) := h.relisted hs g _
    have hbegun := h.begun _ (newDecision s g t.tap) hlisted hidle
    exact h.reserved (h.quiet _ s.laneRx s.laneOut s.laneTx g s.filters s.lastPriority s.slots s.reserved s.queueHighArmed
      s.musterLine s.commandRequest s.tenths s.timeBase s.masks s.resetLine s.uplinkRx s.uplinkTx s.freeCount hbegun)
  staged s d t d' n hs hengine _ hstep := by
    have hdecided : P { s with engine := some d' } := by
      refine h.decided s _ hs (by rw [hengine]; rfl) fun e he hsearching => ?_
      rw [hengine] at he
      cases he
      exact absurd hsearching hstep.not_searching
    exact h.quiet _ s.laneRx s.laneOut s.laneTx s.lastGranted s.filters s.lastPriority s.slots s.reserved s.queueHighArmed
      s.musterLine s.commandRequest s.tenths s.timeBase s.masks s.resetLine s.uplinkRx s.uplinkTx n hdecided
  searched s d t d' lp out fs hs hengine _ _ _ hroom :=
    h.quiet _ s.laneRx s.laneOut s.laneTx s.lastGranted fs lp s.slots s.reserved s.queueHighArmed
      s.musterLine s.commandRequest s.tenths s.timeBase s.masks s.resetLine s.uplinkRx s.uplinkTx s.freeCount
      (h.searched s d d' out hs hengine hroom)
  refused s d t r hs hdeciding _ := by
    obtain ⟨-, hengine, hstage, -⟩ := hdeciding
    exact h.refused hs t r hengine hstage
  opened s d t hs hdeciding _ := by
    obtain ⟨-, hengine, hstage, -⟩ := hdeciding
    exact h.opened hs t hengine hstage
  writeWaits := h.writeWaits
  loaded := h.loaded
  cleared := h.cleared
  activated := h.activated
  activationWaits := h.activationWaits
  slotLoaded _ _ _ _ hs _ _ _ := h.slotted hs _
  slotCleared _ _ hs _ := h.slotted hs _
  sailingOpened s b id line given now hs _ _ _ _ := by
    exact h.sailed _ _ (h.reserved hs) fun hfit =>
      countsFit_set_some b (sl := openedSailing _ _ _ _) ⟨Nat.zero_le _, Nat.zero_le _, Nat.zero_le _⟩ hfit
  sailingClosed _ b sl now hs _ _ := h.closed hs b sl now
  sailingLeaves s b sl hs hsl _ _ := by
    rw [State.noteChange_eq]
    have hsailed : P (s.setSailing b (some { sl with state := .closing })) :=
      h.sailed s _ hs fun hfit => countsFit_set_some b (sl := { sl with state := .closing }) (hfit b sl hsl) hfit
    exact h.noted hsailed fun d => by split <;> rfl
  timeSet _ t slots hs hrange _ := h.slotted (h.timeSet _ t hs hrange) slots
  secondPassed _ t slots hs hclock _ := h.slotted (h.secondPassed _ t hs hclock) slots
  limited s tops hc hs _ _ hrange := h.limited s tops hc hs hrange
  adjusted := h.adjusted
  acked := h.acked
  started s hs _ _ _ _ := h.served s .inService hs
  stopped s hs _ _ := h.served s .config hs
  mustered _ hs _ := h.mustered hs
  resumed _ hs _ := h.resumed hs
  phased := h.phased
  began := h.began
  cameOut := h.cameOut

end
end Sys2Proof.Machine
end

section
/-! Laws that tie no counts together: the queue left alone, gate modes, the uplink lists, record numbers, loaded counts,
ranges, and what stands while a bank is active. -/
namespace Sys2Proof.Machine
open Sys2Proof.Claims

/-! ### The queue is left alone -/

theorem keepsParts_pending (c : Instr) (q : List Instr) : KeepsParts c fun s => s.pending = q where
  quiet _ _ _ _ _ _ _ _ _ _ _ _ _ _ _ _ _ _ _ hs := hs
  taken _ _ _ hs _ := hs
  produced _ _ hs _ := hs
  arrived _ _ hs _ := hs
  sent _ _ _ hs _ := hs
  counted _ _ _ _ hs _ _ := hs
  listed _ _ hs _ := hs
  ended _ _ _ hs := hs
  configured s g k hs _ := by
    rw [State.refreshMode_eq]
    exact hs
  recorded _ _ hs := hs
  sailed _ _ hs _ := hs
  decided _ _ hs _ _ := hs
  begun _ _ hs _ := hs
  searched _ _ _ _ hs _ _ := hs
  idle s d hs _ _ := by
    unfold engineIdle
    split <;> exact hs
  abandoned s hs := by
    rw [State.applyActivation_eq]
    cases hengine : s.engine with
    | none =>
      rw [State.abandonDecision_none hengine]
      exact hs
    | some d =>
      rw [State.abandonDecision_eq hengine]
      exact hs
  writeWaits _ _ hs _ _ := hs
  loaded s n _ _ _ hs _ _ := by cases n <;> exact hs
  cleared s n _ hs _ := by cases n <;> exact hs
  activated _ _ hs _ := hs
  activationWaits _ _ hs _ _ _ := hs
  timeSet _ _ hs _ := hs
  secondPassed _ _ hs _ := hs
  limited _ _ _ hs _ := hs
  adjusted _ _ hs _ := hs
  acked _ _ hs := hs
  served _ _ hs := hs
  phased _ _ hs _ := hs
  began _ _ hs := hs
  cameOut s k _ hs := by cases k <;> exact hs

/-- Settles O2: every command is a run of moves, none of which touches the queue. -/
theorem everyCommandAnswersNextState : Obligations.EveryCommandAnswersNextState :=
  fun c s => (keepsParts_pending c s.pending).keeps.exec rfl

/-! ### Gate modes (R6) -/

theorem modesAgree_set {s : State} (hs : ModesAgree s) (g : Gate) {k : GateContext}
    (hk : k.modeSent = some (computedMode s.service k.state)) : ModesAgree (s.setGate g k) := by
  intro g'
  simp only [State.setGate, getElem_set_fin]
  split
  · exact hk
  · exact hs g'

theorem modesAgree_ended {s : State} (hs : ModesAgree s) (g : Gate) (tap : TapNumber) : ModesAgree (ended s g tap) := by
  refine modesAgree_set hs g ?_
  have hg := hs g
  dsimp only
  split
  · rename_i hdrained
    rw [hg, hdrained.1, computedMode_draining]
  · exact hg

theorem modesAgree_modesSent (s : State) : ModesAgree (modesSent s) := by
  intro g
  simp only [modesSent, getElem_map_fin, computedMode_eq_modeFor]

theorem keepsParts_modesAgree (c : Instr) : KeepsParts c ModesAgree where
  quiet _ _ _ _ _ _ _ _ _ _ _ _ _ _ _ _ _ _ _ hs := hs
  taken _ _ _ hs _ := hs
  produced _ _ hs _ := hs
  arrived _ _ hs _ := hs
  sent _ _ _ hs _ := hs
  counted _ g _ _ hs _ _ := modesAgree_set hs g (hs g)
  listed s v hs hv g := by
    obtain ⟨l, hl⟩ := hv g
    simp only [hl]
    exact hs g
  ended _ g tap hs := modesAgree_ended hs g tap
  configured s g k hs _ g' := by
    rw [State.refreshMode_eq]
    simp only [State.setGate, getElem_set_fin, if_true]
    split
    · rfl
    · exact hs g'
  recorded _ _ hs := hs
  sailed _ _ hs _ := hs
  decided _ _ hs _ _ := hs
  begun _ _ hs _ := hs
  searched _ _ _ _ hs _ _ := hs
  idle s d hs _ _ := by
    unfold engineIdle
    split <;> exact hs
  abandoned s hs := by
    rw [State.applyActivation_eq]
    cases hengine : s.engine with
    | none =>
      rw [State.abandonDecision_none hengine]
      exact hs
    | some d =>
      rw [State.abandonDecision_eq hengine]
      exact modesAgree_ended hs d.gate d.tap
  writeWaits _ _ hs _ _ := hs
  loaded s n _ _ _ hs _ _ := by cases n <;> exact hs
  cleared s n _ hs _ := by cases n <;> exact hs
  activated _ _ hs _ := hs
  activationWaits _ _ hs _ _ _ := hs
  timeSet _ _ hs _ := hs
  secondPassed _ _ hs _ := hs
  limited _ _ _ hs _ := hs
  adjusted _ _ hs _ := hs
  acked _ _ hs := hs
  served _ _ _ := modesAgree_modesSent _
  phased _ _ hs _ := hs
  began s p hs g := by
    simp only [dropped, getElem_map_fin]
    exact hs g
  cameOut s k _ _ g := by
    cases k <;>
      simp [State.comeOut, State.resetCommon, State.resetTables, State.rearmAfterReset, GateContext.afterReset, computedMode]

/-- Settles O53: wherever a gate's state or the service state changes, the mode is sent or stays the same. -/
theorem stepKeepsModesAgreed : Obligations.StepKeepsModesAgreed := fun _ _ hs hstep =>
  Keeps.step (fun c => (keepsParts_modesAgree c).keeps) (fun _ _ hs => hs) hs hstep

/-! ### The uplink lists (R54, R126, R170, R173) -/

theorem roomForReplies_iff (s : State) : RoomForReplies s ↔ s.committed ≤ 64 ∧ s.receiveList.length ≤ 8 := by
  rw [State.committed, State.owed, ← Nat.add_assoc]

theorem State.searching_of_engine {s : State} {d : Decision} (h : s.engine = some d) :
    s.searching = true ↔ d.stage = .searching := by
  simp only [State.searching, h, decide_eq_true_iff]

theorem State.not_searching_of_idle {s : State} (h : s.engine = none) : s.searching = false := by
  simp only [State.searching, h]

/-- Room for the replies owed, and a cause for whatever waits. -/
def RoomAndCause (s : State) : Prop := (s.committed ≤ 64 ∧ s.receiveList.length ≤ 8) ∧ WaitersHaveCause s

/-- Without a running search no write waits. -/
theorem RoomAndCause.no_writes {s : State} (hs : RoomAndCause s) (h : s.searching = false) : s.waitingWrites = [] :=
  Decidable.not_not.mp fun hne => by simp [hs.2.1 hne] at h

theorem RoomAndCause.no_activation {s : State} (hs : RoomAndCause s) (h : s.engine = none) : s.waitingActivation = none := by
  rw [← Option.not_isSome_iff_eq_none]
  intro hsome
  have hengine := hs.2.2 hsome
  rw [h] at hengine
  cases hengine

/-- Nothing waits: the cause of what waits is not asked for. -/
theorem waitersHaveCause_of_none {s : State} (hwrites : s.waitingWrites = []) (hactivation : s.waitingActivation = none) :
    WaitersHaveCause s :=
  ⟨fun h => absurd hwrites h, fun h => by rw [hactivation] at h; cases h⟩

theorem keepsParts_roomAndCause (c : Instr) : KeepsParts c RoomAndCause where
  quiet _ _ _ _ _ _ _ _ _ _ _ _ _ _ _ _ _ _ _ hs := hs
  taken s f rest hs hlist := by
    obtain ⟨⟨hroom, hlen⟩, hcause⟩ := hs
    rw [hlist, List.length_cons] at hlen
    exact ⟨⟨hroom, Nat.le_of_succ_le hlen⟩, hcause⟩
  produced s fs hs hfits := by
    obtain ⟨⟨-, hlen⟩, hcause⟩ := hs
    refine ⟨⟨?_, hlen⟩, hcause⟩
    rw [State.committed_eq] at hfits ⊢
    dsimp only
    rw [List.length_append]
    omega
  arrived s f hs hfits := by
    obtain ⟨⟨hroom, -⟩, hcause⟩ := hs
    exact ⟨⟨hroom, by rw [List.length_append]; exact hfits⟩, hcause⟩
  sent s f rest hs hlist := by
    obtain ⟨⟨hroom, hlen⟩, hcause⟩ := hs
    rw [State.committed_eq, hlist, List.length_cons] at hroom
    refine ⟨⟨?_, hlen⟩, hcause⟩
    rw [State.committed_eq]
    dsimp only
    omega
  counted _ _ _ _ hs _ _ := hs
  listed _ _ hs _ := hs
  ended _ _ _ hs := hs
  configured s g k hs _ := by
    rw [State.refreshMode_eq]
    exact hs
  recorded _ _ hs := hs
  sailed _ _ hs _ := hs
  decided s e hs hsome hstage := by
    obtain ⟨hroom, hwrites, hactivation⟩ := hs
    refine ⟨hroom, fun hne => ?_, fun h => hsome ▸ hactivation h⟩
    have hsearching := hwrites hne
    cases hengine : s.engine with
    | none => simp [State.not_searching_of_idle hengine] at hsearching
    | some d =>
      rw [hengine, Option.isSome_some] at hsome
      obtain ⟨d', rfl⟩ := Option.isSome_iff_exists.mp hsome
      exact (State.searching_of_engine rfl).mpr
        (hstage d hengine ((State.searching_of_engine hengine).mp hsearching) d' rfl)
  begun s d hs hidle :=
    ⟨hs.1, waitersHaveCause_of_none (hs.no_writes (State.not_searching_of_idle hidle)) (hs.no_activation hidle)⟩
  searched s d d' out hs hengine hroom := by
    obtain ⟨⟨hcommitted, hlen⟩, hcause⟩ := hs
    refine ⟨⟨?_, hlen⟩, fun h => absurd rfl h, fun _ => rfl⟩
    have hout := hroom hcommitted
    simp only [State.committed, State.owed, List.length_nil]
    omega
  idle s d hs hengine hstage := by
    have hnone : s.waitingWrites = [] := hs.no_writes (Bool.eq_false_of_not_eq_true fun h =>
      hstage ((State.searching_of_engine hengine).mp h))
    obtain ⟨⟨hroom, hlen⟩, -⟩ := hs
    rw [State.committed_eq] at hroom
    unfold engineIdle
    cases hwaiting : s.waitingActivation with
    | none =>
      rw [hwaiting] at hroom
      exact ⟨⟨by rw [State.committed_eq]; simpa [hwaiting] using hroom, hlen⟩, waitersHaveCause_of_none hnone rfl⟩
    | some w =>
      rw [hwaiting] at hroom
      refine ⟨⟨?_, hlen⟩, waitersHaveCause_of_none hnone rfl⟩
      rw [State.committed_eq]
      simp only [List.length_append, List.length_singleton, Option.toList_some, Option.toList_none, List.length_nil] at hroom ⊢
      omega
  abandoned s hs := by
    have hroom : s.abandonDecision.applyActivation.committed ≤ 64 := by
      rw [applyActivation_committed, abandonDecision_committed]
      exact hs.1.1
    have hwrites : s.abandonDecision.waitingWrites = [] := by
      cases hengine : s.engine with
      | none =>
        rw [State.abandonDecision_none hengine]
        exact hs.no_writes (State.not_searching_of_idle hengine)
      | some d => rw [State.abandonDecision_eq hengine]
    have hlist : s.abandonDecision.receiveList = s.receiveList := by
      cases hengine : s.engine with
      | none => rw [State.abandonDecision_none hengine]
      | some d => rw [State.abandonDecision_eq hengine]; rfl
    rw [State.applyActivation_eq] at hroom ⊢
    exact ⟨⟨hroom, hlist ▸ hs.1.2⟩, waitersHaveCause_of_none hwrites rfl⟩
  writeWaits s w hs hsearching hfits := by
    obtain ⟨⟨-, hlen⟩, -, hactivation⟩ := hs
    refine ⟨⟨?_, hlen⟩, fun _ => hsearching, hactivation⟩
    rw [State.committed_eq] at hfits ⊢
    dsimp only
    rw [List.length_append, List.length_singleton]
    omega
  loaded s n _ _ _ hs _ _ := by cases n <;> exact hs
  cleared s n _ hs _ := by cases n <;> exact hs
  activated _ _ hs _ := hs
  activationWaits s w hs hnone hbusy hfits := by
    obtain ⟨⟨-, hlen⟩, hwrites, -⟩ := hs
    refine ⟨⟨?_, hlen⟩, hwrites, fun _ => hbusy⟩
    rw [State.committed_eq, hnone] at hfits
    rw [State.committed_eq]
    simp only [Option.toList_some, Option.toList_none, List.length_nil, List.length_singleton] at hfits ⊢
    omega
  timeSet _ _ hs _ := hs
  secondPassed _ _ hs _ := hs
  limited _ _ _ hs _ := hs
  adjusted _ _ hs _ := hs
  acked _ _ hs := hs
  served _ _ hs := hs
  phased _ _ hs _ := hs
  began _ _ _ := ⟨⟨Nat.zero_le _, Nat.zero_le _⟩, waitersHaveCause_of_none rfl rfl⟩
  cameOut _ k _ _ := by cases k <;> exact ⟨⟨Nat.zero_le _, Nat.zero_le _⟩, waitersHaveCause_of_none rfl rfl⟩

/-- Settles O54: every frame produced had room beside the replies owed, and an owed reply gives its room to its REPLY. -/
theorem stepKeepsRoomForReplies : Obligations.StepKeepsRoomForReplies := by
  intro s t hroom hcause hstep
  have ht : RoomAndCause t := Keeps.step (fun c => (keepsParts_roomAndCause c).keeps) (fun _ _ hs => hs)
    ⟨(roomForReplies_iff s).mp hroom, hcause⟩ hstep
  exact ⟨(roomForReplies_iff t).mpr ht.1, ht.2⟩

end Sys2Proof.Machine
end

section
/-! Record numbers, loaded counts and ranges (R1, R60, R61, R117, R119, R134, R161, R163), and what stands while a bank is
active (R62, R123). -/
namespace Sys2Proof.Machine
open Sys2Proof.Claims

/-! ### Record numbers (R134) -/

/-- The i-th of these records is numbered as many before `n` as there are records from it on. -/
def NumberedUpTo (l : List Record) (n : SeqNumber) : Prop :=
  ∀ i (h : i < l.length), l[i].seq + BitVec.ofNat 16 (l.length - i) = n

theorem numbersRun_iff (s : State) : NumbersRun s ↔ NumberedUpTo s.written s.nextSeq :=
  ⟨fun h i hi => h ⟨i, hi⟩, fun h i => h i.val i.isLt⟩

theorem NumberedUpTo.append {l : List Record} {n : SeqNumber} (h : NumberedUpTo l n) (b : RecordBody) :
    NumberedUpTo (l ++ [⟨n, b⟩]) (n + 1) := by
  intro i hi
  rw [List.length_append, List.length_singleton] at hi
  rw [List.length_append, List.length_singleton]
  rcases Nat.lt_or_ge i l.length with hold | hnew
  · have hone : l.length + 1 - i = (l.length - i) + 1 := by omega
    rw [List.getElem_append_left hold, hone, BitVec.ofNat_add, ← BitVec.add_assoc, h i hold]
    rfl
  · have hlast : i = l.length := by omega
    subst hlast
    rw [List.getElem_concat_length rfl]
    simp

theorem NumberedUpTo.drop {l : List Record} {n : SeqNumber} (h : NumberedUpTo l n) (k : Nat) : NumberedUpTo (l.drop k) n := by
  intro i hi
  rw [List.length_drop] at hi
  have hlen : (l.drop k).length - i = l.length - (k + i) := by rw [List.length_drop]; omega
  rw [List.getElem_drop, hlen]
  exact h (k + i) (by omega)

theorem keepsParts_numbered (c : Instr) : KeepsParts c fun s => NumberedUpTo s.written s.nextSeq where
  quiet _ _ _ _ _ _ _ _ _ _ _ _ _ _ _ _ _ _ _ hs := hs
  taken _ _ _ hs _ := hs
  produced _ _ hs _ := hs
  arrived _ _ hs _ := hs
  sent _ _ _ hs _ := hs
  counted _ _ _ _ hs _ _ := hs
  listed _ _ hs _ := hs
  ended _ _ _ hs := hs
  configured s g k hs _ := by
    rw [State.refreshMode_eq]
    exact hs
  recorded _ b hs := hs.append b
  sailed _ _ hs _ := hs
  decided _ _ hs _ _ := hs
  begun _ _ hs _ := hs
  searched _ _ _ _ hs _ _ := hs
  idle s d hs _ _ := by
    unfold engineIdle
    split <;> exact hs
  abandoned s hs := by
    rw [State.applyActivation_eq]
    cases hengine : s.engine with
    | none =>
      rw [State.abandonDecision_none hengine]
      exact hs
    | some d =>
      rw [State.abandonDecision_eq hengine]
      exact hs
  writeWaits _ _ hs _ _ := hs
  loaded s n _ _ _ hs _ _ := by cases n <;> exact hs
  cleared s n _ hs _ := by cases n <;> exact hs
  activated _ _ hs _ := hs
  activationWaits _ _ hs _ _ _ := hs
  timeSet _ _ hs _ := hs
  secondPassed _ _ hs _ := hs
  limited _ _ _ hs _ := hs
  adjusted _ _ hs _ := hs
  acked _ k hs := hs.drop k
  served _ _ hs := hs
  phased _ _ hs _ := hs
  began _ _ hs := hs
  cameOut s k _ hs := by
    cases k
    · exact fun i hi => absurd hi (Nat.not_lt_zero i)
    · exact hs
    · exact hs

/-! ### Loaded counts (R117, R119) -/

/-- An entry loaded into a vector of entries is one more where there was none. -/
theorem countP_toList_set {α : Type} {n : Nat} (v : Vector (Option α) n) (i : Fin n) (x : α) :
    (v.set i (some x)).toList.countP Option.isSome =
      v.toList.countP Option.isSome + if v[i] = none then 1 else 0 := by
  have hi : i.val < v.toList.length := by rw [Vector.length_toList]; exact i.isLt
  have hentry : v.toList[i.val] = v[i] := by simp
  rw [Vector.toList_set, List.countP_set hi, hentry, Option.isSome_some, if_pos rfl]
  cases hold : v[i] with
  | none => rfl
  | some y =>
    have hpos : 0 < v.toList.countP Option.isSome :=
      List.countP_pos_iff.mpr ⟨v[i], hentry ▸ List.getElem_mem hi, by rw [hold]; rfl⟩
    rw [Option.isSome_some, if_pos rfl, if_neg (Option.some_ne_none y), Nat.sub_add_cancel hpos, Nat.add_zero]

theorem Bank.loadedEntries_load {b : Bank} {i : TableIndex} {e : TableEntry} (hshape : shapeFits i e)
    (hcount : b.count = b.loadedEntries) : (b.load i e).count = (b.load i e).loadedEntries := by
  rw [load_count, hcount, ← Bank.entry_eq_entryAt]
  cases i <;> cases e <;> simp only [shapeFits] at hshape <;>
    simp only [Bank.load, Bank.write, Bank.loadedEntries, Bank.entry, Option.map_eq_none_iff, countP_toList_set] <;>
    ring

theorem Bank.loadedEntries_empty : Bank.empty.count = Bank.empty.loadedEntries := by decide +kernel

theorem countsLoaded_setBank {s : State} (hs : CountsLoaded s) (n : BankName) {b : Bank} (hb : b.count = b.loadedEntries) :
    CountsLoaded (s.setBank n b) := by
  cases n
  · exact ⟨hb, hs.2⟩
  · exact ⟨hs.1, hb⟩

theorem keepsParts_countsLoaded (c : Instr) : KeepsParts c CountsLoaded where
  quiet _ _ _ _ _ _ _ _ _ _ _ _ _ _ _ _ _ _ _ hs := hs
  taken _ _ _ hs _ := hs
  produced _ _ hs _ := hs
  arrived _ _ hs _ := hs
  sent _ _ _ hs _ := hs
  counted _ _ _ _ hs _ _ := hs
  listed _ _ hs _ := hs
  ended _ _ _ hs := hs
  configured s g k hs _ := by
    rw [State.refreshMode_eq]
    exact hs
  recorded _ _ hs := hs
  sailed _ _ hs _ := hs
  decided _ _ hs _ _ := hs
  begun _ _ hs _ := hs
  searched _ _ _ _ hs _ _ := hs
  idle s d hs _ _ := by
    unfold engineIdle
    split <;> exact hs
  abandoned s hs := by
    rw [State.applyActivation_eq]
    cases hengine : s.engine with
    | none =>
      rw [State.abandonDecision_none hengine]
      exact hs
    | some d =>
      rw [State.abandonDecision_eq hengine]
      exact hs
  writeWaits _ _ hs _ _ := hs
  loaded s n i e _ hs _ hshape := by
    refine countsLoaded_setBank hs n (Bank.loadedEntries_load hshape ?_)
    cases n
    · exact hs.1
    · exact hs.2
  cleared s n _ hs _ := countsLoaded_setBank hs n Bank.loadedEntries_empty
  activated _ _ hs _ := hs
  activationWaits _ _ hs _ _ _ := hs
  timeSet _ _ hs _ := hs
  secondPassed _ _ hs _ := hs
  limited _ _ _ hs _ := hs
  adjusted _ _ hs _ := hs
  acked _ _ hs := hs
  served _ _ hs := hs
  phased _ _ hs _ := hs
  began _ _ hs := hs
  cameOut s k _ hs := by
    cases k
    · exact ⟨Bank.loadedEntries_empty, Bank.loadedEntries_empty⟩
    · exact ⟨Bank.loadedEntries_empty, Bank.loadedEntries_empty⟩
    · exact hs

/-! ### Ranges (R1, R60, R61, R161, R163) -/

/-- The counts of a gate are in range (R1). -/
def GateContext.countsFit (c : GateContext) : Prop := c.badFrames ≤ 255 ∧ c.strays ≤ 255

theorem valuesInRange_gates {s : State} (hs : ValuesInRange s) (v : Vector GateContext 16)
    (hv : ∀ g : Gate, s.gates[g].countsFit → v[g].countsFit) : ValuesInRange { s with gates := v } := by
  obtain ⟨hclock, hparams, hceilings, hgates, hsailings⟩ := hs
  exact ⟨hclock, hparams, hceilings, fun g => hv g (hgates g), hsailings⟩

theorem valuesInRange_set {s : State} (hs : ValuesInRange s) (g : Gate) {k : GateContext}
    (hk : s.gates[g].countsFit → k.countsFit) : ValuesInRange (s.setGate g k) := by
  refine valuesInRange_gates hs _ fun g' hg' => ?_
  rw [getElem_set_fin]
  split
  · rename_i hg
    exact hk (hg ▸ hg')
  · exact hg'

theorem ServiceTime.next_inRange {t : ServiceTime} (h : t.inRange) : t.next.inRange := by
  obtain ⟨hday, hsecond⟩ := h
  unfold ServiceTime.next Config.daySeconds Config.dayCount
  split
  · exact ⟨hday, ‹_›⟩
  · exact ⟨Nat.mod_lt _ (by decide), (by decide : (0 : Nat) < 86400)⟩

theorem Params.default_inRange : Params.default.inRange := by decide

theorem keepsParts_valuesInRange (c : Instr) : KeepsParts c ValuesInRange where
  quiet _ _ _ _ _ _ _ _ _ _ _ _ _ _ _ _ _ _ _ hs := hs
  taken _ _ _ hs _ := hs
  produced _ _ hs _ := hs
  arrived _ _ hs _ := hs
  sent _ _ _ hs _ := hs
  counted _ g _ _ hs hbad hstrays := valuesInRange_set hs g fun hfit => ⟨hbad hfit.1, hstrays hfit.2⟩
  listed s v hs hv := valuesInRange_gates hs v fun g hfit => by
    obtain ⟨l, hl⟩ := hv g
    rw [hl]
    exact hfit
  ended _ g _ hs := valuesInRange_set hs g id
  configured s g k hs hk := by
    have hfit : s.gates[g].countsFit → k.countsFit := by
      rcases hk with ⟨-, rfl⟩ | ⟨-, v, rfl⟩ <;> exact id
    rw [State.refreshMode_eq]
    exact valuesInRange_set (valuesInRange_set hs g hfit) g id
  recorded _ _ hs := hs
  sailed s v hs hfit := by
    obtain ⟨hclock, hparams, hceilings, hgates, hsailings⟩ := hs
    exact ⟨hclock, hparams, hceilings, hgates, hfit hsailings⟩
  decided _ _ hs _ _ := hs
  begun _ _ hs _ := hs
  searched _ _ _ _ hs _ _ := hs
  idle s d hs _ _ := by
    unfold engineIdle
    split <;> exact hs
  abandoned s hs := by
    rw [State.applyActivation_eq]
    cases hengine : s.engine with
    | none =>
      rw [State.abandonDecision_none hengine]
      exact hs
    | some d =>
      rw [State.abandonDecision_eq hengine]
      exact valuesInRange_set hs d.gate id
  writeWaits _ _ hs _ _ := hs
  loaded s n _ _ _ hs _ _ := by cases n <;> exact hs
  cleared s n _ hs _ := by cases n <;> exact hs
  activated _ _ hs _ := hs
  activationWaits _ _ hs _ _ _ := hs
  timeSet s t hs hrange := ⟨fun _ h => Option.some.inj h ▸ hrange, hs.2⟩
  secondPassed s t hs hclock := ⟨fun _ h => Option.some.inj h ▸ ServiceTime.next_inRange (hs.1 t hclock), hs.2⟩
  limited s tops _ hs hrange := ⟨hs.1, hs.2.1, fun _ h => Option.some.inj h ▸ hrange, hs.2.2.2⟩
  adjusted s p hs hrange := ⟨hs.1, hrange, hs.2.2⟩
  acked _ _ hs := hs
  served s sv hs := valuesInRange_gates (s := { s with service := sv }) hs _ fun g hfit => by
    simp only [modesSent, getElem_map_fin]
    exact hfit
  phased _ _ hs _ := hs
  began s p hs := by
    obtain ⟨hclock, hparams, hceilings, hgates, -⟩ := hs
    refine ⟨hclock, hparams, hceilings, fun g => ?_, fun b sl hsl => ?_⟩
    · simp only [dropped, getElem_map_fin]
      exact hgates g
    · simp [dropped] at hsl
  cameOut s k _ hs := by
    have hgates (k : ResetKind) (g : Gate) :
        ((s.gates.map (GateContext.afterReset (decide (k = .command))))[g]).countsFit := by
      rw [getElem_map_fin]
      exact ⟨Nat.zero_le _, Nat.zero_le _⟩
    have hsailings (b : BerthNo) : ∀ sl ∈ (Vector.replicate 4 (none : Option Sailing))[b], sl.countsFit := by simp
    cases k
    · exact ⟨fun _ h => (nomatch h), Params.default_inRange, fun _ h => (nomatch h), hgates .power, hsailings⟩
    · exact ⟨fun _ h => (nomatch h), Params.default_inRange, fun _ h => (nomatch h), hgates .line, hsailings⟩
    · exact ⟨hs.1, hs.2.1, hs.2.2.1, hgates .command, hsailings⟩

/-- Settles O55: a record takes the next number, a load raises the count when the entry was unloaded, and each value is put
in its range where it is written. -/
theorem stepKeepsNumbersAndRanges : Obligations.StepKeepsNumbersAndRanges := by
  refine fun s t hstep => ⟨fun hs => ?_, fun hs => ?_, fun hs => ?_⟩
  · exact (numbersRun_iff t).mpr (Keeps.step (fun c => (keepsParts_numbered c).keeps) (fun _ _ hs => hs)
      ((numbersRun_iff s).mp hs) hstep)
  · exact Keeps.step (fun c => (keepsParts_countsLoaded c).keeps) (fun _ _ hs => hs) hs hstep
  · exact Keeps.step (fun c => (keepsParts_valuesInRange c).keeps) (fun _ _ hs => hs) hs hstep

/-! ### What stands while a bank is active (R62, R123) -/

/-- Banks and ceilings are those of `s`, and so is the marker unless it names a bank. -/
def TablesOf (s t : State) : Prop :=
  t.bankA = s.bankA ∧ t.bankB = s.bankB ∧ t.ceilings = s.ceilings ∧ (t.activeBank = s.activeBank ∨ t.activeBank ≠ none)

/-- The commands that load or clear a bank, set the ceilings, or take the part out of a reset. -/
def changesTables : Instr → Bool
  | .loadFare => true
  | .clearBank => true
  | .setLimits => true
  | .commandResetEnd => true
  | .powerUpComplete => true
  | .resetLineReleased => true
  | _ => false

theorem keepsParts_tablesOf {c : Instr} (hc : changesTables c = false) (s : State) : KeepsParts c (TablesOf s) where
  quiet _ _ _ _ _ _ _ _ _ _ _ _ _ _ _ _ _ _ _ hs := hs
  taken _ _ _ hs _ := hs
  produced _ _ hs _ := hs
  arrived _ _ hs _ := hs
  sent _ _ _ hs _ := hs
  counted _ _ _ _ hs _ _ := hs
  listed _ _ hs _ := hs
  ended _ _ _ hs := hs
  configured s g k hs _ := by
    rw [State.refreshMode_eq]
    exact hs
  recorded _ _ hs := hs
  sailed _ _ hs _ := hs
  decided _ _ hs _ _ := hs
  begun _ _ hs _ := hs
  searched _ _ _ _ hs _ _ := hs
  idle s d hs _ _ := by
    unfold engineIdle
    split
    · exact hs
    · exact ⟨hs.1, hs.2.1, hs.2.2.1, .inr (Option.some_ne_none _)⟩
  abandoned t hs := by
    have habandoned : TablesOf s t.abandonDecision := by
      cases hengine : t.engine with
      | none =>
        rw [State.abandonDecision_none hengine]
        exact hs
      | some d =>
        rw [State.abandonDecision_eq hengine]
        exact hs
    obtain ⟨hA, hB, hceilings, hactive⟩ := habandoned
    rw [State.applyActivation_eq]
    refine ⟨hA, hB, hceilings, ?_⟩
    dsimp only
    split
    · exact .inr (Option.some_ne_none _)
    · exact hactive
  writeWaits _ _ hs _ _ := hs
  loaded _ _ _ _ h := by subst h; cases hc
  cleared _ _ h := by subst h; cases hc
  activated _ n hs _ := ⟨hs.1, hs.2.1, hs.2.2.1, .inr (Option.some_ne_none n)⟩
  activationWaits _ _ hs _ _ _ := hs
  timeSet _ _ hs _ := hs
  secondPassed _ _ hs _ := hs
  limited _ _ h := by subst h; cases hc
  adjusted _ _ hs _ := hs
  acked _ _ hs := hs
  served _ _ hs := hs
  phased _ _ hs _ := hs
  began _ _ hs := hs
  cameOut _ _ h := by rcases h with rfl | rfl | rfl <;> cases hc

/-- What a step must leave standing of `s` (R62, R123). -/
def Stands (s t : State) : Prop :=
  (∀ n, s.activeBank = some n → t.activeBank = some n → t.bank n = s.bank n)
    ∧ (∀ n, s.activeBank = some n → t.activeBank ≠ none ∨ (s.phase ≠ .running ∧ t.phase = .running ∧ t.resetCause ≠ .command))
    ∧ (∀ tops, s.ceilings = some tops →
        t.ceilings = some tops ∨ (s.phase ≠ .running ∧ t.phase = .running ∧ t.resetCause ≠ .command))

theorem TablesOf.stands {s t : State} (h : TablesOf s t) : Stands s t := by
  obtain ⟨hA, hB, hceilings, hactive⟩ := h
  refine ⟨fun n _ _ => ?_, fun n hn => .inl ?_, fun tops htops => .inl (hceilings.trans htops)⟩
  · cases n
    · exact hA
    · exact hB
  · rcases hactive with hsame | hsome
    · rw [hsame, hn]
      exact Option.some_ne_none n
    · exact hsome

/-- The marker and set ceilings are those of `s`, and so is the bank the marker of `s` names. -/
def ActiveOf (s t : State) : Prop :=
  t.activeBank = s.activeBank ∧ (∀ tops, s.ceilings = some tops → t.ceilings = some tops)
    ∧ ∀ n, s.activeBank = some n → t.bank n = s.bank n

theorem ActiveOf.refl (s : State) : ActiveOf s s := ⟨rfl, fun _ h => h, fun _ _ => rfl⟩

theorem ActiveOf.stands {s t : State} (h : ActiveOf s t) : Stands s t := by
  obtain ⟨hactive, hceilings, hbank⟩ := h
  exact ⟨fun n hn _ => hbank n hn, fun n hn => .inl (by rw [hactive, hn]; exact Option.some_ne_none n),
    fun tops htops => .inl (hceilings tops htops)⟩

/-- A frame taken and a REPLY produced leave the tables alone. -/
theorem ActiveOf.answered {s t : State} (h : ActiveOf s t) (rest : List MgmtFrame) (out : List UplinkFrame) :
    ActiveOf s { t with receiveList := rest, outgoing := out } := by
  obtain ⟨hactive, hceilings, hbank⟩ := h
  refine ⟨hactive, hceilings, fun n hn => ?_⟩
  rw [← hbank n hn]
  cases n <;> rfl

/-- A bank that is not held is written without touching the active one (R123). -/
theorem ActiveOf.setBank {s t : State} (h : ActiveOf s t) {n : BankName} (b : Bank) (hheld : t.bankHeld n = false) :
    ActiveOf s (t.setBank n b) := by
  obtain ⟨hactive, hceilings, hbank⟩ := h
  have hother : s.activeBank ≠ some n := fun hn => by simp [State.bankHeld, hactive, hn] at hheld
  refine ⟨?_, ?_, fun m hm => ?_⟩
  · cases n <;> exact hactive
  · cases n <;> exact hceilings
  · rw [← hbank m hm]
    cases n <;> cases m
    · exact absurd hm hother
    · rfl
    · rfl
    · exact absurd hm hother

theorem ActiveOf.loadFare {s t : State} (h : ActiveOf s t) (tag : Byte) (a : LoadFareArgs) :
    ActiveOf s (loadFare tag a t) := by
  obtain ⟨r, d, heq⟩ | ⟨n, i, e, hheld, -, heq⟩ := loadFare_cases tag a t
  · rw [heq]
    exact h.answered t.receiveList _
  · rw [heq]
    exact (h.setBank _ hheld).answered (t.setBank n _).receiveList _

theorem ActiveOf.clearBank {s t : State} (h : ActiveOf s t) (tag a : Byte) : ActiveOf s (clearBank tag a t) := by
  obtain ⟨r, d, heq⟩ | ⟨n, hheld, heq⟩ := clearBank_cases tag a t
  · rw [heq]
    exact h.answered t.receiveList _
  · rw [heq]
    exact (h.setBank _ hheld).answered (t.setBank n _).receiveList _

theorem ActiveOf.setLimits {s t : State} (h : ActiveOf s t) (tag : Byte) (a : SetLimitsArgs) :
    ActiveOf s (setLimits tag a t) := by
  obtain ⟨r, d, heq⟩ | ⟨-, hunset, -, heq⟩ := setLimits_cases tag a t
  · rw [heq]
    exact h.answered t.receiveList _
  · have hlimited : ActiveOf s { t with ceilings := some a.ceilings } := by
      refine ⟨h.1, fun tops htops => ?_, h.2.2⟩
      rw [h.2.1 tops htops] at hunset
      cases hunset
    rw [heq]
    exact hlimited.answered t.receiveList _

/-- The part out of a POWER or LINE reset is excused. -/
theorem Stands.comeOut {s s1 : State} {k : ResetKind} (hphase : s.phase ≠ .running) (hk : k ≠ .command) :
    Stands s (s1.comeOut k) := by
  have hout : (s1.comeOut k).phase = .running ∧ (s1.comeOut k).resetCause = k ∧ (s1.comeOut k).activeBank = none := by
    cases k
    · exact ⟨rfl, rfl, rfl⟩
    · exact ⟨rfl, rfl, rfl⟩
    · exact absurd rfl hk
  obtain ⟨hrunning, hcause, hnone⟩ := hout
  have hexcused : s.phase ≠ .running ∧ (s1.comeOut k).phase = .running ∧ (s1.comeOut k).resetCause ≠ .command :=
    ⟨hphase, hrunning, by rw [hcause]; exact hk⟩
  exact ⟨fun n _ hn => (by rw [hnone] at hn; cases hn), fun _ _ => .inr hexcused, fun _ _ => .inr hexcused⟩

theorem stands_of_reset_step {s t : State} {c : Instr}
    (hc : c = .commandResetEnd ∨ c = .powerUpComplete ∨ c = .resetLineReleased) (h : exec c s = .next t) : Stands s t := by
  rcases hc with rfl | rfl | rfl
  · simp only [exec, execCommandResetEnd] at h
    split at h
    · cases h
      exact ActiveOf.stands ⟨rfl, fun _ h => h, fun n _ => by cases n <;> rfl⟩
    · cases h
      exact (ActiveOf.refl _).stands
  · simp only [exec, execPowerUpComplete] at h
    split at h
    · rename_i hphase
      split at h
      · cases h
        exact ActiveOf.stands ⟨rfl, fun _ h => h, fun n _ => by cases n <;> rfl⟩
      · cases h
        exact Stands.comeOut (by rw [hphase]; exact nofun) (by decide)
    · cases h
      exact (ActiveOf.refl _).stands
  · simp only [exec, execResetLineReleased] at h
    split at h
    · split at h
      · rename_i hphase
        cases h
        exact Stands.comeOut (by rw [hphase]; exact nofun) (by decide)
      · rename_i hphase
        cases h
        exact Stands.comeOut (by rw [hphase]; exact nofun) (by decide)
      · cases h
        exact ActiveOf.stands ⟨rfl, fun _ h => h, fun n _ => by cases n <;> rfl⟩
    · cases h
      exact (ActiveOf.refl _).stands

theorem stands_of_exec {c : Instr} {s t : State} (h : exec c s = .next t) : Stands s t := by
  have hanswered (rest : List MgmtFrame) (out : List UplinkFrame) := (ActiveOf.refl s).answered rest out
  cases hc : changesTables c with
  | false =>
    obtain ⟨t', ht', htables⟩ := (keepsParts_tablesOf hc s).keeps.exec ⟨rfl, rfl, rfl, .inl rfl⟩
    rw [h] at ht'
    cases ht'
    exact htables.stands
  | true =>
    cases c with
    | loadFare => exact (takeFrame_keeps h (ActiveOf.refl s) hanswered fun tag a rest =>
        ((ActiveOf.refl s).answered rest s.outgoing).loadFare tag a).stands
    | clearBank => exact (takeFrame_keeps h (ActiveOf.refl s) hanswered fun tag a rest =>
        ((ActiveOf.refl s).answered rest s.outgoing).clearBank tag a).stands
    | setLimits => exact (takeFrame_keeps h (ActiveOf.refl s) hanswered fun tag a rest =>
        ((ActiveOf.refl s).answered rest s.outgoing).setLimits tag a).stands
    | commandResetEnd => exact stands_of_reset_step (.inl rfl) h
    | powerUpComplete => exact stands_of_reset_step (.inr (.inl rfl)) h
    | resetLineReleased => exact stands_of_reset_step (.inr (.inr rfl)) h
    | _ => cases hc

/-- Settles O60: loads and clears spare a held bank, ceilings are set once, and only a POWER or LINE reset unloads. -/
theorem activeBankAndCeilingsStand : Obligations.ActiveBankAndCeilingsStand := by
  intro s t hstep
  unfold step at hstep
  split at hstep
  · cases hstep
    exact ActiveOf.stands ⟨rfl, fun _ h => h, fun n _ => by cases n <;> rfl⟩
  · rename_i rest _
    have hstands := stands_of_exec hstep
    have hbank (n : BankName) : State.bank { s with pending := rest } n = s.bank n := by cases n <;> rfl
    exact ⟨fun n hn ht => (hstands.1 n hn ht).trans (hbank n), hstands.2⟩

/-- Settles O59: each law read off the reset state. -/
theorem resetStateMeetsLaws : Obligations.ResetStateMeetsLaws :=
  ⟨by decide +kernel, by decide +kernel, by decide +kernel, by decide +kernel, by decide +kernel, by decide +kernel,
    by decide +kernel, ⟨by decide +kernel, by decide +kernel, by decide +kernel⟩,
    ⟨by decide +kernel, by decide +kernel, by decide +kernel⟩⟩

end Sys2Proof.Machine
end

section
/-! Transactions of the part counted gate by gate (R10, R67, R110, R136), and what becomes of the counts as a transaction
joins, changes or ends. -/
namespace Sys2Proof.Machine
open Sys2Proof.Claims

/-! ### Lists of transactions with distinct tap numbers (R10) -/

theorem findTap_eq_some_iff {l : List Transaction} {tap : TapNumber} {t : Transaction} :
    findTap l tap = some t ↔ t.tap = tap ∧ ∃ as bs, l = as ++ t :: bs ∧ ∀ u ∈ as, u.tap ≠ tap := by
  simp [findTap, List.find?_eq_some_iff_append]

theorem mem_of_findTap {l : List Transaction} {tap : TapNumber} {t : Transaction} (h : findTap l tap = some t) : t ∈ l :=
  List.mem_of_find?_eq_some h

theorem tap_of_findTap {l : List Transaction} {tap : TapNumber} {t : Transaction} (h : findTap l tap = some t) : t.tap = tap :=
  (findTap_eq_some_iff.mp h).1

theorem findTap_of_mem {l : List Transaction} (hnodup : (l.map (·.tap)).Nodup) {t : Transaction} (h : t ∈ l) :
    findTap l t.tap = some t := by
  obtain ⟨as, bs, rfl⟩ := List.append_of_mem h
  rw [List.map_append, List.map_cons] at hnodup
  have hbefore := (List.nodup_append.mp hnodup).2.2
  exact findTap_eq_some_iff.mpr ⟨rfl, as, bs, rfl, fun u hu =>
    hbefore u.tap (List.mem_map_of_mem hu) t.tap List.mem_cons_self⟩

theorem findTap_none_iff {l : List Transaction} {tap : TapNumber} : findTap l tap = none ↔ ∀ u ∈ l, u.tap ≠ tap := by
  simp [findTap]

/-- The list without the transaction a tap number names. -/
def withoutTap (l : List Transaction) (tap : TapNumber) : List Transaction := l.eraseP fun u => decide (u.tap = tap)

theorem withoutTap_append {as bs : List Transaction} {t : Transaction} {tap : TapNumber} (htap : t.tap = tap)
    (has : ∀ u ∈ as, u.tap ≠ tap) : withoutTap (as ++ t :: bs) tap = as ++ bs := by
  rw [withoutTap, List.eraseP_append_right _ (by simpa using has), List.eraseP_cons_of_pos (by simpa using htap)]

theorem mem_of_withoutTap {l : List Transaction} {tap : TapNumber} {u : Transaction} (h : u ∈ withoutTap l tap) : u ∈ l :=
  List.mem_of_mem_eraseP h

theorem nodup_withoutTap {l : List Transaction} (h : (l.map (·.tap)).Nodup) (tap : TapNumber) :
    ((withoutTap l tap).map (·.tap)).Nodup :=
  h.sublist (List.eraseP_sublist.map _)

theorem tap_ne_of_mem_withoutTap {l : List Transaction} (hnodup : (l.map (·.tap)).Nodup) {tap : TapNumber} {u : Transaction}
    (h : u ∈ withoutTap l tap) : u.tap ≠ tap := by
  intro htap
  have hfind := findTap_of_mem hnodup (mem_of_withoutTap h)
  obtain ⟨-, as, bs, rfl, has⟩ := findTap_eq_some_iff.mp hfind
  rw [htap] at has
  rw [withoutTap_append htap has] at h
  rw [List.map_append, List.map_cons] at hnodup
  obtain ⟨-, hbs, hdisjoint⟩ := List.nodup_append.mp hnodup
  rcases List.mem_append.mp h with hmem | hmem
  · exact has u hmem htap
  · exact (List.nodup_cons.mp hbs).1 (List.mem_map_of_mem hmem)

theorem findTap_withoutTap_ne {l : List Transaction} {tap other : TapNumber} (h : other ≠ tap) :
    findTap (withoutTap l tap) other = findTap l other := by
  induction l with
  | nil => rfl
  | cons u l ih =>
    by_cases hu : u.tap = tap
    · have hother : u.tap ≠ other := fun heq => h (heq ▸ hu)
      rw [withoutTap, List.eraseP_cons_of_pos (by simpa using hu)]
      simp [findTap, hother]
    · rw [withoutTap, List.eraseP_cons_of_neg (by simpa using hu)]
      by_cases hother : u.tap = other
      · simp [findTap, hother]
      · simpa [findTap, hother, withoutTap] using ih

theorem countP_withoutTap {l : List Transaction} {tap : TapNumber} {t : Transaction} (h : findTap l tap = some t)
    (p : Transaction → Bool) : (withoutTap l tap).countP p + (if p t = true then 1 else 0) = l.countP p := by
  obtain ⟨htap, as, bs, rfl, has⟩ := findTap_eq_some_iff.mp h
  rw [withoutTap_append htap has, List.countP_append, List.countP_append, List.countP_cons, Nat.add_assoc]

/-- The list with the transaction a tap number names changed. -/
def changedTap (l : List Transaction) (tap : TapNumber) (f : Transaction → Transaction) : List Transaction :=
  l.map fun u => if u.tap = tap then f u else u

theorem changedTap_append {as bs : List Transaction} {t : Transaction} {tap : TapNumber} (f : Transaction → Transaction)
    (htap : t.tap = tap) (hnodup : ((as ++ t :: bs).map (·.tap)).Nodup) :
    changedTap (as ++ t :: bs) tap f = as ++ f t :: bs := by
  subst htap
  exact map_update_of_nodup f hnodup

theorem countP_changedTap {l : List Transaction} (hnodup : (l.map (·.tap)).Nodup) {tap : TapNumber} {t : Transaction}
    (h : findTap l tap = some t) (f : Transaction → Transaction) (p : Transaction → Bool) :
    (changedTap l tap f).countP p + (if p t = true then 1 else 0) = l.countP p + if p (f t) = true then 1 else 0 := by
  obtain ⟨htap, as, bs, rfl, -⟩ := findTap_eq_some_iff.mp h
  rw [changedTap_append f htap hnodup, List.countP_append, List.countP_append, List.countP_cons, List.countP_cons]
  omega

theorem taps_changedTap {f : Transaction → Transaction} (hf : ∀ t, (f t).tap = t.tap) (l : List Transaction)
    (tap : TapNumber) : (changedTap l tap f).map (·.tap) = l.map (·.tap) := by
  rw [changedTap, List.map_map]
  refine List.map_congr_left fun u _ => ?_
  dsimp only [Function.comp_apply]
  split
  · exact hf u
  · rfl

theorem findTap_map {f : Transaction → Transaction} (hf : ∀ t, (f t).tap = t.tap) (l : List Transaction) (tap : TapNumber) :
    findTap (l.map f) tap = (findTap l tap).map f := by
  simp [findTap, List.find?_map, hf]

/-! ### Counts over all gates -/

/-- Transactions that meet `q` in the light of their gate's settings. -/
def countOf (q : GateSettings → Transaction → Bool) (v : Vector GateContext 16) : Nat :=
  ∑ g : Gate, v[g].list.countP (q v[g].config)

theorem countP_transactions (s : State) (q : GateSettings → Transaction → Bool) :
    (s.transactions.countP fun p => q s.gates[p.1].config p.2) = countOf q s.gates := by
  rw [State.transactions, List.countP_flatMap, countOf, Fin.sum_univ_def]
  refine congrArg List.sum (List.map_congr_left fun g _ => ?_)
  exact List.countP_map ..

theorem countOf_set (q : GateSettings → Transaction → Bool) (v : Vector GateContext 16) (g : Gate) (c : GateContext) :
    countOf q (v.set g c) + v[g].list.countP (q v[g].config) = countOf q v + c.list.countP (q c.config) := by
  have hrest : ∑ g' ∈ Finset.univ.erase g, (v.set g c)[g'].list.countP (q (v.set g c)[g'].config) =
      ∑ g' ∈ Finset.univ.erase g, v[g'].list.countP (q v[g'].config) :=
    Finset.sum_congr rfl fun g' hg' => by rw [getElem_set_fin_ne v (Finset.ne_of_mem_erase hg').symm]
  rw [countOf, countOf, ← Finset.add_sum_erase _ _ (Finset.mem_univ g), ← Finset.add_sum_erase _ _ (Finset.mem_univ g), hrest,
    getElem_set_fin_self]
  omega

theorem countOf_relisted (q : GateSettings → Transaction → Bool) (v : Vector GateContext 16) (g : Gate) (l : List Transaction) :
    countOf q (v.set g { v[g] with list := l }) + v[g].list.countP (q v[g].config) = countOf q v + l.countP (q v[g].config) :=
  countOf_set q v g { v[g] with list := l }

theorem countOf_congr {q : GateSettings → Transaction → Bool} {v w : Vector GateContext 16}
    (h : ∀ g : Gate, w[g].list.countP (q w[g].config) = v[g].list.countP (q v[g].config)) : countOf q w = countOf q v :=
  Finset.sum_congr rfl fun g _ => h g

theorem countOf_of_empty {q : GateSettings → Transaction → Bool} {v : Vector GateContext 16} (h : ∀ g : Gate, v[g].list = []) :
    countOf q v = 0 :=
  Finset.sum_eq_zero fun g _ => by rw [h g, List.countP_nil]

theorem countOf_ended (q : GateSettings → Transaction → Bool) {v : Vector GateContext 16} {g : Gate} {tap : TapNumber}
    {t : Transaction} (h : findTap v[g].list tap = some t) :
    countOf q (v.set g (v[g].ended tap)) + (if q v[g].config t = true then 1 else 0) = countOf q v := by
  have hset := countOf_set q v g (v[g].ended tap)
  have hlist : (withoutTap v[g].list tap).countP (q v[g].config) + (if q v[g].config t = true then 1 else 0) =
      v[g].list.countP (q v[g].config) := countP_withoutTap h _
  have hended : (v[g].ended tap).list.countP (q (v[g].ended tap).config) =
      (withoutTap v[g].list tap).countP (q v[g].config) := rfl
  omega

theorem countOf_changed (q : GateSettings → Transaction → Bool) {v : Vector GateContext 16} {g : Gate} {tap : TapNumber}
    {t : Transaction} (hnodup : (v[g].list.map (·.tap)).Nodup) (h : findTap v[g].list tap = some t)
    (f : Transaction → Transaction) :
    countOf q (v.set g { v[g] with list := changedTap v[g].list tap f }) + (if q v[g].config t = true then 1 else 0) =
      countOf q v + if q v[g].config (f t) = true then 1 else 0 := by
  have hset := countOf_relisted q v g (changedTap v[g].list tap f)
  have hlist := countP_changedTap hnodup h f (q v[g].config)
  omega

theorem countOf_joined (q : GateSettings → Transaction → Bool) (v : Vector GateContext 16) (g : Gate) (t : Transaction) :
    countOf q (v.set g { v[g] with list := v[g].list ++ [t] }) = countOf q v + if q v[g].config t = true then 1 else 0 := by
  have hset := countOf_relisted q v g (v[g].list ++ [t])
  rw [List.countP_append, List.countP_singleton] at hset
  omega

end Sys2Proof.Machine
end

section
/-! Transactions, the one decision and the reservations agree (R4, R10, R27, R136, R137). -/
namespace Sys2Proof.Machine
open Sys2Proof.Claims

/-- Gate contexts, the transaction of the decision in progress, reserved slots, open sailings and written records agree. -/
structure Agreed (v : Vector GateContext 16) (e : Option (Gate × TapNumber)) (reserved opened written : Nat) : Prop where
  kept (g : Gate) : v[g].kept
  deciding (g : Gate) (t : Transaction) : t ∈ v[g].list → t.state = .deciding → e = some (g, t.tap)
  found (g : Gate) (tap : TapNumber) : e = some (g, tap) → ∃ t, findTap v[g].list tap = some t ∧ t.state = .deciding
  reserved_eq : reserved = countOf (fun _ t => !t.isPending) v + opened
  total : written + reserved ≤ 256

/-- The transaction of the decision in progress. -/
def Decision.names (d : Decision) : Gate × TapNumber := (d.gate, d.tap)

theorem State.granted_eq (s : State) : s.granted = countOf (fun _ t => !t.isPending) s.gates :=
  countP_transactions s fun _ t => !t.isPending

theorem State.mem_transactions {s : State} {p : Gate × Transaction} : p ∈ s.transactions ↔ p.2 ∈ s.gates[p.1].list := by
  obtain ⟨g, t⟩ := p
  simp [State.transactions]

theorem accounted_iff (s : State) :
    Accounted s ↔ Agreed s.gates (s.engine.map Decision.names) s.reserved s.openSailings s.written.length := by
  constructor
  · rintro ⟨hkept, ⟨hdeciding, hfound⟩, hreserved, htotal⟩
    refine ⟨hkept, fun g t ht hstate => hdeciding (g, t) (State.mem_transactions.mpr ht) hstate, fun g tap he => ?_,
      by rw [hreserved, State.granted_eq], htotal⟩
    obtain ⟨d, hd, hnames⟩ := Option.map_eq_some_iff.mp he
    cases hnames
    obtain ⟨t, ht, hstate⟩ := Option.map_eq_some_iff.mp (hfound d hd)
    exact ⟨t, ht, hstate⟩
  · rintro ⟨hkept, hdeciding, hfound, hreserved, htotal⟩
    refine ⟨hkept, ⟨fun p hp hstate => hdeciding p.1 p.2 (State.mem_transactions.mp hp) hstate, fun d hd => ?_⟩,
      by rw [hreserved, State.granted_eq], htotal⟩
    obtain ⟨t, ht, hstate⟩ := hfound d.gate d.tap (by rw [hd]; rfl)
    rw [ht, Option.map_some, hstate]

section
variable {v w : Vector GateContext 16} {e : Option (Gate × TapNumber)} {reserved opened written : Nat}

/-! ### One transaction joins, changes or ends -/

/-- Transactions rewritten in place, taps and states as they were but for what an awaiting one holds. -/
def SamePlace (f : Transaction → Transaction) : Prop :=
  ∀ t, (f t).tap = t.tap ∧ (f t).isPending = t.isPending ∧ ((f t).state = .deciding ↔ t.state = .deciding)

theorem SamePlace.id : SamePlace id := fun _ => ⟨rfl, rfl, Iff.rfl⟩

theorem SamePlace.markerDropped : SamePlace Transaction.markerDropped := by
  intro t
  cases hstate : t.state with
  | awaiting a =>
    rw [Transaction.markerDropped_awaiting hstate]
    simp [Transaction.isPending, hstate]
  | pending w =>
    rw [Transaction.markerDropped_of_not_awaiting (by simp [hstate])]
    exact ⟨rfl, rfl, by rw [hstate]⟩
  | deciding =>
    rw [Transaction.markerDropped_of_not_awaiting (by simp [hstate])]
    exact ⟨rfl, rfl, by rw [hstate]⟩

theorem Agreed.rewritten (h : Agreed v e reserved opened written)
    (hw : ∀ g : Gate, ∃ f, SamePlace f ∧ w[g].list = v[g].list.map f ∧ w[g].config = v[g].config ∧ w[g].state = v[g].state) :
    Agreed w e reserved opened written where
  kept g := by
    obtain ⟨f, hf, hlist, hconfig, hstate⟩ := hw g
    obtain ⟨hnodup, hplaces, hactive, hdisabled⟩ := h.kept g
    have htaps : w[g].list.map (·.tap) = v[g].list.map (·.tap) := by
      rw [hlist, List.map_map]
      exact List.map_congr_left fun t _ => (hf t).1
    refine ⟨htaps ▸ hnodup, ?_, ?_, fun hs => ?_⟩
    · rw [hlist, List.length_map, hconfig]
      exact hplaces
    · rw [hconfig, hstate]
      exact hactive
    · rw [hlist, hdisabled (hstate ▸ hs)]
      rfl
  deciding g t ht hstate := by
    obtain ⟨f, hf, hlist, -, -⟩ := hw g
    rw [hlist] at ht
    obtain ⟨u, hu, rfl⟩ := List.mem_map.mp ht
    rw [h.deciding g u hu ((hf u).2.2.mp hstate), (hf u).1]
  found g tap he := by
    obtain ⟨f, hf, hlist, -, -⟩ := hw g
    obtain ⟨t, ht, hstate⟩ := h.found g tap he
    refine ⟨f t, ?_, (hf t).2.2.mpr hstate⟩
    rw [hlist, findTap_map (fun t => (hf t).1), ht, Option.map_some]
  reserved_eq := by
    rw [h.reserved_eq, countOf_congr (v := v) (w := w)]
    intro g
    obtain ⟨f, hf, hlist, -, -⟩ := hw g
    rw [hlist, List.countP_map]
    refine List.countP_congr fun t _ => ?_
    rw [Function.comp_apply, (hf t).2.1]
  total := h.total

/-- Gate contexts that differ in mode and counts alone. -/
theorem Agreed.congr (h : Agreed v e reserved opened written)
    (hw : ∀ g : Gate, w[g].list = v[g].list ∧ w[g].config = v[g].config ∧ w[g].state = v[g].state) :
    Agreed w e reserved opened written :=
  h.rewritten fun g => ⟨id, SamePlace.id, (hw g).1.trans (List.map_id _).symm, (hw g).2⟩

theorem kept_set {g : Gate} {c : GateContext} (h : ∀ g : Gate, v[g].kept) (hc : c.kept) (g' : Gate) : (v.set g c)[g'].kept := by
  rw [getElem_set_fin]
  split
  · exact hc
  · exact h g'

theorem GateContext.kept_ended {c : GateContext} (h : c.kept) (tap : TapNumber) : (c.ended tap).kept := by
  obtain ⟨hnodup, hplaces, hactive, hdisabled⟩ := h
  have hsub : (withoutTap c.list tap).length ≤ c.list.length := List.eraseP_sublist.length_le
  refine ⟨nodup_withoutTap hnodup tap, hsub.trans hplaces, ?_, ?_⟩
  · refine hactive.trans ?_
    simp only [GateContext.ended]
    split
    · rename_i hdrained
      rw [hdrained.1]
      decide
    · exact Iff.rfl
  · simp only [GateContext.ended]
    split
    · rename_i hdrained
      exact fun _ => hdrained.2
    · intro hs
      rw [hdisabled hs]
      rfl

/-- A PENDING transaction joins the list of an ACTIVE gate (R11). -/
theorem Agreed.joined (h : Agreed v e reserved opened written) {g : Gate} {t : Transaction} (hstate : v[g].state = .active)
    (hpending : t.isPending = true) (hnew : findTap v[g].list t.tap = none) (hroom : v[g].list.length < v[g].config.lane.places) :
    Agreed (v.set g { v[g] with list := v[g].list ++ [t] }) e reserved opened written where
  kept := by
    obtain ⟨hnodup, -, hactive, -⟩ := h.kept g
    refine kept_set h.kept ⟨?_, ?_, hactive, fun hs => ?_⟩
    · rw [List.map_append, List.nodup_append]
      refine ⟨hnodup, List.nodup_singleton _, fun tap htap other hother => ?_⟩
      obtain ⟨u, hu, rfl⟩ := List.mem_map.mp htap
      rw [List.mem_singleton.mp hother]
      exact findTap_none_iff.mp hnew u hu
    · rw [List.length_append]
      exact hroom
    · dsimp only at hs
      rw [hstate] at hs
      cases hs
  deciding g' u hu hdeciding := by
    rw [getElem_set_fin] at hu
    split at hu
    · rename_i hg
      subst hg
      rcases List.mem_append.mp hu with hold | hnew
      · exact h.deciding g u hold hdeciding
      · rw [List.mem_singleton.mp hnew] at hdeciding
        simp [Transaction.isPending, hdeciding] at hpending
    · exact h.deciding g' u hu hdeciding
  found g' tap he := by
    obtain ⟨u, hu, hdeciding⟩ := h.found g' tap he
    refine ⟨u, ?_, hdeciding⟩
    rw [getElem_set_fin]
    split
    · rename_i hg
      subst hg
      exact (List.find?_append ..).trans (by rw [findTap] at hu; rw [hu, Option.some_or])
    · exact hu
  reserved_eq := by
    have hcount := countOf_joined (fun _ t => !t.isPending) v g t
    simp only [hpending, Bool.not_true, Bool.false_eq_true, if_false, Nat.add_zero] at hcount
    rw [hcount]
    exact h.reserved_eq
  total := h.total

/-- A transaction ends, and its record is written in its reserved slot when it has one (R21, R136). -/
theorem Agreed.ended (h : Agreed v e reserved opened written) {g : Gate} {tap : TapNumber} {t : Transaction}
    (hfind : findTap v[g].list tap = some t) {e' : Option (Gate × TapNumber)}
    (he' : e' = if t.state = .deciding then none else e) {slot : Nat} (hslot : slot = if t.isPending = true then 0 else 1)
    {written' : Nat} (hwritten : written' ≤ written + slot) :
    Agreed (v.set g (v[g].ended tap)) e' (reserved - slot) opened written' where
  kept := kept_set h.kept (GateContext.kept_ended (h.kept g) tap)
  deciding g' u hu hdeciding := by
    have hne : ¬ (g = g' ∧ u.tap = tap) := by
      rintro ⟨rfl, htap⟩
      rw [getElem_set_fin_self] at hu
      exact tap_ne_of_mem_withoutTap (h.kept g).1 hu htap
    have hold : u ∈ v[g'].list := by
      rw [getElem_set_fin] at hu
      split at hu
      · rename_i hg
        subst hg
        exact mem_of_withoutTap hu
      · exact hu
    have he := h.deciding g' u hold hdeciding
    rw [he']
    split
    · rename_i ht
      have hown := h.deciding g t (mem_of_findTap hfind) ht
      rw [he, tap_of_findTap hfind] at hown
      cases hown
      exact absurd ⟨rfl, rfl⟩ hne
    · exact he
  found g' other he := by
    rw [he'] at he
    split at he
    · cases he
    · rename_i ht
      obtain ⟨u, hu, hdeciding⟩ := h.found g' other he
      refine ⟨u, ?_, hdeciding⟩
      rw [getElem_set_fin]
      split
      · rename_i hg
        subst hg
        refine (findTap_withoutTap_ne fun hother => ht ?_).trans hu
        rw [hother, hfind] at hu
        cases hu
        exact hdeciding
      · exact hu
  reserved_eq := by
    have hcount := countOf_ended (fun _ t => !t.isPending) hfind
    have hreserved := h.reserved_eq
    cases hpending : t.isPending with
    | true =>
      simp only [hpending, Bool.not_true, Bool.false_eq_true, if_false] at hcount
      simp only [hpending, if_true] at hslot
      omega
    | false =>
      simp only [hpending, Bool.not_false, if_true] at hcount
      simp only [hpending, Bool.false_eq_true, if_false] at hslot
      omega
  total := by
    have hcount := countOf_ended (fun _ t => !t.isPending) hfind
    have hreserved := h.reserved_eq
    have htotal := h.total
    cases hpending : t.isPending with
    | true =>
      simp only [hpending, if_true] at hslot
      omega
    | false =>
      simp only [hpending, Bool.not_false, if_true] at hcount
      simp only [hpending, Bool.false_eq_true, if_false] at hslot
      omega

/-- A transaction changes its state, and with it the decision in progress and its reservation (R27, R31). -/
theorem Agreed.changed (h : Agreed v e reserved opened written) {g : Gate} {tap : TapNumber} {t : Transaction}
    (hfind : findTap v[g].list tap = some t) {f : Transaction → Transaction} (hf : ∀ t, (f t).tap = t.tap)
    {e' : Option (Gate × TapNumber)} (he : e = none ∨ e = some (g, tap))
    (he' : e' = if (f t).state = .deciding then some (g, tap) else none) {reserved' : Nat}
    (hreserved : reserved' + (if (!t.isPending) = true then 1 else 0) = reserved + if (!(f t).isPending) = true then 1 else 0)
    (htotal : written + reserved' ≤ 256) :
    Agreed (v.set g { v[g] with list := changedTap v[g].list tap f }) e' reserved' opened written where
  kept := by
    obtain ⟨hnodup, hplaces, hactive, hdisabled⟩ := h.kept g
    refine kept_set h.kept ⟨?_, ?_, hactive, fun hs => ?_⟩
    · rw [taps_changedTap hf]
      exact hnodup
    · rw [changedTap, List.length_map]
      exact hplaces
    · rw [hdisabled hs]
      rfl
  deciding g' u hu hdeciding := by
    have hother (g'' : Gate) (x : Transaction) (hx : x ∈ v[g''].list) (hstate : x.state = .deciding) : g'' = g ∧ x.tap = tap := by
      have hnames := h.deciding g'' x hx hstate
      rcases he with hnone | hsome
      · rw [hnone] at hnames
        cases hnames
      · rw [hsome] at hnames
        cases hnames
        exact ⟨rfl, rfl⟩
    rw [getElem_set_fin] at hu
    split at hu
    · rename_i hg
      subst hg
      obtain ⟨x, hx, rfl⟩ := List.mem_map.mp hu
      split at hdeciding
      · rename_i htap
        have hxt := findTap_of_mem (h.kept g).1 hx
        rw [htap, hfind] at hxt
        cases hxt
        rw [he', if_pos hdeciding, if_pos htap, hf, htap]
      · rename_i htap
        exact absurd (hother g x hx hdeciding).2 htap
    · rename_i hg
      exact absurd (hother g' u hu hdeciding).1.symm hg
  found g' other heq := by
    rw [he'] at heq
    split at heq
    · rename_i hstate
      cases heq
      refine ⟨f t, ?_, hstate⟩
      rw [getElem_set_fin_self]
      have htap := tap_of_findTap hfind
      have hmapped := findTap_map (f := fun u => if u.tap = tap then f u else u)
        (fun u => by split; exacts [hf u, rfl]) v[g].list tap
      rw [hfind, Option.map_some, if_pos htap] at hmapped
      exact hmapped
    · cases heq
  reserved_eq := by
    have hcount := countOf_changed (fun _ t => !t.isPending) (h.kept g).1 hfind f
    have hold := h.reserved_eq
    dsimp only at hcount ⊢
    omega
  total := htotal

/-- All lists emptied and all sailings gone (R165). -/
theorem Agreed.emptied (hkept : ∀ g : Gate, (v[g].config.enabled = true ↔ v[g].state = .active) ∧ v[g].list = [])
    (hwritten : written ≤ 256) : Agreed v none 0 0 written where
  kept g := by
    obtain ⟨hactive, hlist⟩ := hkept g
    refine ⟨?_, ?_, hactive, fun _ => hlist⟩
    · rw [hlist]
      exact List.nodup_nil
    · rw [hlist]
      exact Nat.zero_le _
  deciding g t ht := by
    rw [(hkept g).2] at ht
    cases ht
  found _ _ he := by cases he
  reserved_eq := by rw [countOf_of_empty fun g => (hkept g).2]
  total := hwritten

/-- A gate is configured: disabled with what it holds, or set anew while it holds nothing (R3). -/
theorem Agreed.configured (h : Agreed v e reserved opened written) {g : Gate} {k : GateContext}
    (hk : v[g].state = .active ∧ k = v[g].disable ∨ v[g].state = .disabled ∧ ∃ x, k = v[g].configure x) :
    k.list = v[g].list ∧ Agreed (v.set g k) e reserved opened written := by
  obtain ⟨hnodup, hplaces, -, hdisabled⟩ := h.kept g
  have hlist : k.list = v[g].list := by rcases hk with ⟨-, rfl⟩ | ⟨-, x, rfl⟩ <;> rfl
  have hkept : k.kept := by
    refine ⟨hlist ▸ hnodup, ?_, ?_, ?_⟩
    · rcases hk with ⟨-, rfl⟩ | ⟨hstate, x, rfl⟩
      · exact hplaces
      · rw [hlist, hdisabled hstate]
        exact Nat.zero_le _
    · rcases hk with ⟨-, rfl⟩ | ⟨-, x, rfl⟩
      · simp only [GateContext.disable]
        split <;> simp
      · simp only [GateContext.configure]
        split <;> simp_all
    · rcases hk with ⟨-, rfl⟩ | ⟨hstate, x, rfl⟩
      · simp only [GateContext.disable]
        split
        · exact fun _ => ‹_›
        · exact fun hs => nomatch hs
      · exact fun _ => hdisabled hstate
  refine ⟨hlist, ⟨kept_set h.kept hkept, fun g' t ht => ?_, fun g' tap he => ?_, ?_, h.total⟩⟩
  · rw [getElem_set_fin] at ht
    split at ht
    · rename_i hg
      subst hg
      exact h.deciding g t (hlist ▸ ht)
    · exact h.deciding g' t ht
  · rw [getElem_set_fin]
    split
    · rename_i hg
      subst hg
      rw [hlist]
      exact h.found g tap he
    · exact h.found g' tap he
  · have hset := countOf_set (fun _ t => !t.isPending) v g k
    have hold := h.reserved_eq
    rw [hlist] at hset
    omega

end
end Sys2Proof.Machine
end

section
/-! What the moves change (alerts, reservations, places, the idle engine), muster entry gate by gate, and the law of
transactions and reservations (R4, R10, R27, R136, R137). -/
namespace Sys2Proof.Machine
open Sys2Proof.Claims

/-! ### The fields that a move changes -/

theorem reserved_fields (s : State) :
    ∃ armed out, Claims.reserved s = { s with reserved := s.reserved + 1, queueHighArmed := armed, outgoing := out } := by
  unfold Claims.reserved
  split
  · exact ⟨_, _, rfl⟩
  · exact ⟨s.queueHighArmed, s.outgoing, rfl⟩

theorem placeTaken_fields {s : State} {b : BerthNo} {sl : Sailing} (h : s.sailings[b] = some sl) (f : Sailing → Sailing) :
    ∃ armed out, placeTaken s b f =
      { s with sailings := s.sailings.set b (some { f sl with alertArmed := armed }), outgoing := out } := by
  unfold placeTaken
  rw [h]
  dsimp only
  split
  · exact ⟨_, _, rfl⟩
  · exact ⟨_, s.outgoing, rfl⟩

theorem engineIdle_fields (s : State) :
    ∃ bank waiting out, engineIdle s =
      { s with engine := none, activeBank := bank, waitingActivation := waiting, outgoing := out } := by
  unfold engineIdle
  split
  · exact ⟨s.activeBank, s.waitingActivation, s.outgoing, rfl⟩
  · exact ⟨_, _, _, rfl⟩

theorem applyActivation_fields (s : State) :
    ∃ bank out, s.applyActivation = { s with activeBank := bank, waitingActivation := none, outgoing := out } :=
  ⟨_, _, s.applyActivation_eq⟩

/-- The place of an open changes sailings that stay open, and raises an alert at most. -/
theorem takePlace_fields (s : State) (d : Decision) (k : Counting) :
    ∃ sailings out, s.takePlace d k = { s with sailings := sailings, outgoing := out }
      ∧ ∀ b : BerthNo, sailings[b].isSome = s.sailings[b].isSome := by
  have hset (b : BerthNo) (sl : Sailing) (hsl : (s.sailings[b]).isSome = true) (b' : BerthNo) :
      (s.sailings.set b (some sl))[b'].isSome = s.sailings[b'].isSome := by
    rw [getElem_set_fin]
    split
    · rename_i hb
      rw [← hb, hsl]
      rfl
    · rfl
  have hplace (b : BerthNo) (f : Sailing → Sailing) : ∃ sailings out,
      placeTaken s b f = { s with sailings := sailings, outgoing := out }
        ∧ ∀ b' : BerthNo, sailings[b'].isSome = s.sailings[b'].isSome := by
    cases hsl : s.sailings[b] with
    | none => exact ⟨s.sailings, s.outgoing, by unfold placeTaken; rw [hsl], fun _ => rfl⟩
    | some sl =>
      obtain ⟨armed, out, heq⟩ := placeTaken_fields hsl f
      exact ⟨_, out, heq, hset b _ (by rw [hsl]; rfl)⟩
  cases hfound : d.found with
  | none => exact ⟨s.sailings, s.outgoing, by simp only [State.takePlace, hfound], fun _ => rfl⟩
  | some f =>
    rw [State.takePlace_eq s hfound]
    cases k <;> dsimp only <;> split
    · exact ⟨s.sailings, s.outgoing, rfl, fun _ => rfl⟩
    · exact hplace f.berth _
    · refine ⟨_, s.outgoing, rfl, fun b => ?_⟩
      rw [getElem_set_fin]
      split
      · rename_i hb
        rw [hb, Option.isSome_map]
      · rfl
    · exact hplace f.berth _

/-! ### Open sailings counted (R136) -/

/-- Sailings that are not CLOSED. -/
def openIn (v : Vector (Option Sailing) 4) : Nat := v.toList.countP Option.isSome

theorem openIn_congr {v w : Vector (Option Sailing) 4} (h : ∀ b : BerthNo, w[b].isSome = v[b].isSome) : openIn w = openIn v := by
  have hmap : w.map Option.isSome = v.map Option.isSome := vector_ext_fin fun b => by
    rw [getElem_map_fin, getElem_map_fin, h b]
  have hcount (u : Vector (Option Sailing) 4) : openIn u = (u.map Option.isSome).toList.countP id := by
    rw [Vector.toList_map, List.countP_map]
    rfl
  rw [hcount, hmap, ← hcount]

theorem openIn_set (v : Vector (Option Sailing) 4) (b : BerthNo) (o : Option Sailing) :
    openIn (v.set b o) + (if v[b].isSome = true then 1 else 0) = openIn v + if o.isSome = true then 1 else 0 := by
  have hb : b.val < v.toList.length := by rw [Vector.length_toList]; exact b.isLt
  have hentry : v.toList[b.val] = v[b] := by simp
  rw [openIn, openIn, Vector.toList_set, List.countP_set hb, hentry]
  split
  · have hpos : 0 < v.toList.countP Option.isSome :=
      List.countP_pos_iff.mpr ⟨v[b], hentry ▸ List.getElem_mem hb, ‹_›⟩
    omega
  · omega

theorem openIn_set_map (v : Vector (Option Sailing) 4) (b : BerthNo) (f : Sailing → Sailing) :
    openIn (v.set b (v[b].map f)) = openIn v :=
  openIn_congr fun b' => by
    rw [getElem_set_fin]
    split
    · rename_i hb
      rw [hb, Option.isSome_map]
    · rfl

/-- A gate's berth has its sailing changed, not closed. -/
theorem openIn_onSailingOf (s : State) (g : Gate) (f : Sailing → Sailing) : openIn (onSailingOf s g f).sailings = openIn s.sailings := by
  unfold onSailingOf
  dsimp only
  split
  · exact openIn_set_map s.sailings _ f
  · rfl

/-! ### Muster entry gate by gate (R149, R150) -/

section
variable {P : State → Prop}

theorem musterTx_gates {g : Gate} {s : State} {t : Transaction} (h : t.state ≠ .deciding) :
    (State.musterTx g s t).gates = s.gates.set g (s.gates[g].ended t.tap) := by
  unfold State.musterTx
  split
  · rfl
  · rw [State.endNotBoarded_eq]
    rfl
  · exact absurd ‹_› h

/-- A law under which no transaction is DECIDING, kept as the first transaction of the gate ends, is kept as all end. -/
theorem foldl_musterTx {g : Gate} (hno : ∀ s, P s → ∀ t ∈ s.gates[g].list, t.state ≠ .deciding)
    (hends : ∀ s t rest, P s → (∀ g' < g, s.gates[g'].list = []) → s.gates[g].list = t :: rest → t.state ≠ .deciding →
      P (State.musterTx g s t))
    (l : List Transaction) {s : State} (hs : P s) (hfirst : ∀ g' < g, s.gates[g'].list = []) (hl : s.gates[g].list = l) :
    P (l.foldl (State.musterTx g) s) ∧
      ∀ g' : Gate, (l.foldl (State.musterTx g) s).gates[g'].list = if g' = g then [] else s.gates[g'].list := by
  induction l generalizing s with
  | nil =>
    refine ⟨hs, fun g' => ?_⟩
    split
    · rename_i hg
      rw [hg]
      exact hl
    · rfl
  | cons t l ih =>
    have ht : t.state ≠ .deciding := hno s hs t (by rw [hl]; exact List.mem_cons_self)
    have hgates := musterTx_gates (g := g) (s := s) ht
    have hrest : (State.musterTx g s t).gates[g].list = l := by
      rw [hgates, getElem_set_fin_self]
      change withoutTap s.gates[g].list t.tap = l
      rw [hl]
      exact withoutTap_append (as := []) rfl (fun _ h => nomatch h)
    have hothers (g' : Gate) (hg' : g' ≠ g) : (State.musterTx g s t).gates[g'].list = s.gates[g'].list := by
      rw [hgates, getElem_set_fin_ne _ (Ne.symm hg')]
    obtain ⟨hP, hlists⟩ := ih (hends s t l hs hfirst hl ht)
      (fun g' hg' => (hothers g' (ne_of_lt hg')).trans (hfirst g' hg')) hrest
    refine ⟨hP, fun g' => (hlists g').trans ?_⟩
    split
    · rfl
    · exact hothers g' ‹_›

theorem foldl_musterGate (hno : ∀ s, P s → ∀ (g : Gate), ∀ t ∈ s.gates[g].list, t.state ≠ .deciding)
    (hends : ∀ s (g : Gate) t rest, P s → (∀ g' < g, s.gates[g'].list = []) → s.gates[g].list = t :: rest →
      t.state ≠ .deciding → P (State.musterTx g s t))
    (gs : List Gate) (hsorted : gs.Pairwise (· < ·)) {s : State} (hs : P s) (hdone : ∀ g, g ∉ gs → s.gates[g].list = []) :
    P (gs.foldl State.musterGate s) ∧ ∀ g : Gate, (gs.foldl State.musterGate s).gates[g].list = [] := by
  induction gs generalizing s with
  | nil => exact ⟨hs, fun g => hdone g List.not_mem_nil⟩
  | cons g gs ih =>
    obtain ⟨hlater, hsorted⟩ := List.pairwise_cons.mp hsorted
    have hfirst (g' : Gate) (hg' : g' < g) : s.gates[g'].list = [] := hdone g' fun hmem => by
      rcases List.mem_cons.mp hmem with heq | hmem
      · exact absurd heq (ne_of_lt hg')
      · exact absurd hg' (lt_asymm (hlater g' hmem))
    obtain ⟨hP, hlists⟩ := foldl_musterTx (fun s hs => hno s hs g) (fun s t rest hs => hends s g t rest hs) _ hs hfirst rfl
    refine ih hsorted hP fun g' hg' => (hlists g').trans ?_
    split
    · rfl
    · rename_i hne
      exact hdone g' fun hmem => (List.mem_cons.mp hmem).elim hne hg'

/-- Muster entry, its law and the empty lists it leaves (R149 to R152). -/
theorem State.musterEntry_keeps {s : State} (hs : P s.abandonDecision.applyActivation)
    (hno : ∀ s, P s → ∀ (g : Gate), ∀ t ∈ s.gates[g].list, t.state ≠ .deciding)
    (hends : ∀ s (g : Gate) t rest, P s → (∀ g' < g, s.gates[g'].list = []) → s.gates[g].list = t :: rest →
      t.state ≠ .deciding → P (State.musterTx g s t)) :
    ∃ s1, P s1 ∧ (∀ g : Gate, s1.gates[g].list = []) ∧
      s.musterEntry = modesSent { (List.finRange 4).foldl State.musterBerth s1 with service := .muster } := by
  obtain ⟨hP, hempty⟩ := foldl_musterGate hno hends (List.finRange 16) (List.pairwise_lt_finRange 16) hs
    fun g hg => absurd (List.mem_finRange g) hg
  exact ⟨_, hP, hempty, by rw [State.musterEntry, State.refreshModes_eq]⟩

end

/-! ### The law of transactions and reservations -/

theorem accounted_iff_agreed {s : State} :
    Accounted s ↔ Agreed s.gates (s.engine.map Decision.names) s.reserved (openIn s.sailings) s.written.length := accounted_iff s

theorem decision_names_noted (e : Option Decision) {f : Decision → Decision} (hf : ∀ d, (f d).names = d.names) :
    (e.map f).map Decision.names = e.map Decision.names := by
  rw [Option.map_map]
  exact Option.map_congr fun d _ => hf d

/-- A sailing closes: its summary takes the slot reserved when it opened (R75, R136). -/
theorem accounted_closed {s : State} (hs : Accounted s) {b : BerthNo} {sl : Sailing} (hsl : s.sailings[b] = some sl)
    (now : ServiceTime) : Accounted (closed s b sl now) := by
  have hagreed := accounted_iff_agreed.mp hs
  have hmarkers := hagreed.rewritten (w := (closed s b sl now).gates) fun g => by
    simp only [closed, recorded, getElem_map_fin]
    split
    · exact ⟨_, fun t => by cases ht : t.state <;> simp [Transaction.isPending, ht], rfl, rfl, rfl⟩
    · exact ⟨id, SamePlace.id, (List.map_id _).symm, rfl, rfl⟩
  have hopen := openIn_set s.sailings b none
  simp only [hsl, Option.isSome_some, if_true, Option.isSome_none, Bool.false_eq_true, if_false, Nat.add_zero] at hopen
  have hnames : (closed s b sl now).engine.map Decision.names = s.engine.map Decision.names :=
    decision_names_noted s.engine fun d => by split <;> rfl
  have hreserved := hmarkers.reserved_eq
  have htotal := hmarkers.total
  refine accounted_iff_agreed.mpr ⟨hmarkers.kept, ?_, ?_, ?_, ?_⟩
  · rw [hnames]
    exact hmarkers.deciding
  · rw [hnames]
    exact hmarkers.found
  · change s.reserved - 1 = _ + openIn (s.sailings.set b none)
    omega
  · change (s.written ++ [_]).length + (s.reserved - 1) ≤ 256
    rw [List.length_append, List.length_singleton]
    omega

theorem accounted_closedIfEmpty {s : State} (hs : Accounted s) (g : Gate) (now : ServiceTime) :
    Accounted (closedIfEmpty s g now) := by
  unfold closedIfEmpty
  split
  · exact hs
  · split
    · exact hs
    · split
      · exact accounted_closed hs ‹_› now
      · exact hs

/-- An awaiting transaction ends with its record (R19 to R22). -/
theorem accounted_awaiting_ends {s : State} (hs : Accounted s) {g : Gate} {t : Transaction} {a : Awaiting}
    (hfind : findTap s.gates[g].list t.tap = some t) (ht : t.state = .awaiting a) (f : Sailing → Sailing)
    (k : PassSlot → PassSlot) (body : RecordBody) :
    Accounted (ended (recorded (Claims.onSlot (onSailingOf s g f) a.slot k) body) g t.tap) := by
  refine accounted_iff_agreed.mpr ?_
  have hended := (accounted_iff_agreed.mp hs).ended hfind (e' := s.engine.map Decision.names) (slot := 1)
    (written' := (s.written ++ [(⟨s.nextSeq, body⟩ : Record)]).length) (by rw [ht]; simp) (by simp [Transaction.isPending, ht])
    (by simp)
  rw [← openIn_onSailingOf s g f] at hended
  exact hended

theorem accounted_boarded {s : State} (hs : Accounted s) {g : Gate} {t : Transaction} {a : Awaiting}
    (hfind : findTap s.gates[g].list t.tap = some t) (ht : t.state = .awaiting a) (now : ServiceTime) :
    Accounted (boarded s g t a now) :=
  accounted_awaiting_ends hs hfind ht _ _ _

theorem accounted_notBoarded {s : State} (hs : Accounted s) {g : Gate} {t : Transaction} {a : Awaiting}
    (hfind : findTap s.gates[g].list t.tap = some t) (ht : t.state = .awaiting a) (kind : TapKind) (now : ServiceTime) :
    Accounted (notBoarded s g t a kind now) :=
  accounted_awaiting_ends hs hfind ht _ _ _

/-- A PENDING transaction ends without a record (R13, R22). -/
theorem accounted_ended_pending {s : State} (hs : Accounted s) {g : Gate} {tap : TapNumber} {t : Transaction}
    (hfind : findTap s.gates[g].list tap = some t) (ht : t.isPending = true) : Accounted (ended s g tap) := by
  have hnot : t.state ≠ .deciding := fun hstate => by simp [Transaction.isPending, hstate] at ht
  exact accounted_iff_agreed.mpr ((accounted_iff_agreed.mp hs).ended hfind (slot := 0) (if_neg hnot).symm (if_pos ht).symm le_rfl)

theorem accounted_modesSent {s : State} (hs : Accounted s) (sv : ServiceState) : Accounted (modesSent { s with service := sv }) :=
  accounted_iff_agreed.mpr ((accounted_iff_agreed.mp hs).congr fun g => by
    simp only [modesSent, getElem_map_fin, and_self])

/-- The DECIDING transaction of the decision in progress. -/
theorem Accounted.deciding {s : State} (hs : Accounted s) {d : Decision} (hengine : s.engine = some d) :
    ∃ t, findTap s.gates[d.gate].list d.tap = some t ∧ t.state = .deciding :=
  (accounted_iff_agreed.mp hs).found d.gate d.tap (by rw [hengine]; rfl)

theorem accounted_no_deciding {s : State} (hs : Accounted s) (hidle : s.engine = none) {g : Gate} {t : Transaction}
    (ht : t ∈ s.gates[g].list) : t.state ≠ .deciding := by
  intro hstate
  have hnames := (accounted_iff_agreed.mp hs).deciding g t ht hstate
  rw [hidle] at hnames
  cases hnames

/-- The decision given up, its transaction and its slot with it, and what waited applied (R43, R149). -/
theorem accounted_abandoned {s : State} (hs : Accounted s) :
    Accounted s.abandonDecision.applyActivation ∧ s.abandonDecision.applyActivation.engine = none := by
  obtain ⟨bank, out, heq⟩ := applyActivation_fields s.abandonDecision
  rw [heq]
  cases hengine : s.engine with
  | none =>
    rw [State.abandonDecision_none hengine]
    exact ⟨hs, hengine⟩
  | some d =>
    rw [State.abandonDecision_eq hengine]
    obtain ⟨t, hfind, hstate⟩ := hs.deciding hengine
    have hended := (accounted_iff_agreed.mp hs).ended hfind (e' := none) (slot := 1) (written' := s.written.length)
      (by rw [hstate]; rfl) (by simp [Transaction.isPending, hstate]) (Nat.le_succ _)
    exact ⟨accounted_iff_agreed.mpr hended, rfl⟩

/-- Transactions and reservations agree, and the engine is idle. -/
def IdleAccounted (s : State) : Prop := Accounted s ∧ s.engine = none

theorem IdleAccounted.no_deciding {s : State} (hs : IdleAccounted s) (g : Gate) : ∀ t ∈ s.gates[g].list, t.state ≠ .deciding :=
  fun _ ht => accounted_no_deciding hs.1 hs.2 ht

theorem findTap_head {l rest : List Transaction} {t : Transaction} (h : l = t :: rest) : findTap l t.tap = some t := by
  rw [h]
  exact findTap_eq_some_iff.mpr ⟨rfl, [], rest, rfl, fun _ hu => nomatch hu⟩

theorem IdleAccounted.musterTx {s : State} (hs : IdleAccounted s) {g : Gate} {t : Transaction} {rest : List Transaction}
    (hl : s.gates[g].list = t :: rest) : IdleAccounted (State.musterTx g s t) := by
  obtain ⟨haccounted, hidle⟩ := hs
  unfold State.musterTx
  split
  · exact ⟨accounted_ended_pending haccounted (findTap_head hl) (by simp [Transaction.isPending, ‹t.state = _›]), hidle⟩
  · rw [State.endNotBoarded_eq]
    exact ⟨accounted_notBoarded haccounted (findTap_head hl) ‹_› .voided _, hidle⟩
  · exact ⟨haccounted, hidle⟩

theorem IdleAccounted.musterBerth (s : State) (b : BerthNo) (hs : IdleAccounted s) : IdleAccounted (s.musterBerth b) := by
  obtain ⟨haccounted, hidle⟩ := hs
  unfold State.musterBerth
  cases hsl : s.sailings[b] with
  | none => exact ⟨haccounted, hidle⟩
  | some sl =>
    dsimp only
    split
    · refine ⟨accounted_iff_agreed.mpr ?_, hidle⟩
      have hopen : openIn (s.sailings.set b (some { sl with state := .suspended })) = openIn s.sailings :=
        openIn_congr fun b' => by
          rw [getElem_set_fin]
          split
          · rename_i hb
            rw [← hb, hsl]
            rfl
          · rfl
      have hagreed := accounted_iff_agreed.mp haccounted
      rw [← hopen] at hagreed
      exact hagreed
    · rw [State.closeSailing_eq_closed hsl]
      refine ⟨accounted_closed haccounted hsl s.now, ?_⟩
      change s.engine.map _ = none
      rw [hidle]
      rfl
    · exact ⟨haccounted, hidle⟩

end Sys2Proof.Machine
end

section
/-! Every step keeps transactions, the one decision and the reservations agreed (R4, R10, R27, R136, R137). -/
namespace Sys2Proof.Machine
open Sys2Proof.Claims

theorem accounted_musterEntry {s : State} (hs : Accounted s) : Accounted s.musterEntry := by
  obtain ⟨s1, hs1, -, heq⟩ := State.musterEntry_keeps (P := IdleAccounted) (accounted_abandoned hs)
    (fun _ hs g => hs.no_deciding g) (fun _ _ _ _ hs _ hl _ => hs.musterTx hl)
  rw [heq]
  exact accounted_modesSent (foldl_keeps IdleAccounted.musterBerth _ hs1).1 .muster

theorem accounted_reserved {s : State}
    (h : Agreed s.gates (s.engine.map Decision.names) (s.reserved + 1) (openIn s.sailings) s.written.length) :
    Accounted (Claims.reserved s) := by
  obtain ⟨armed, out, heq⟩ := reserved_fields s
  rw [heq]
  exact accounted_iff_agreed.mpr h

/-- The gates' enabling agrees with their states when they hold nothing. -/
theorem GateContext.afterReset_fits (kept : Bool) (c : GateContext) :
    ((c.afterReset kept).config.enabled = true ↔ (c.afterReset kept).state = .active) ∧ (c.afterReset kept).list = [] := by
  refine ⟨?_, rfl⟩
  cases kept
  · exact ⟨(nomatch ·), (nomatch ·)⟩
  · simp only [GateContext.afterReset, if_true]
    split <;> simp_all

theorem accounted_comeOut {s : State} (hs : Accounted s) (k : ResetKind) : Accounted (s.comeOut k) := by
  have hwritten : s.written.length ≤ 256 := (Nat.le_add_right _ _).trans hs.2.2.2
  have hgates (k : ResetKind) (g : Gate) :
      ((s.gates.map (GateContext.afterReset (decide (k = .command))))[g].config.enabled = true ↔
      (s.gates.map (GateContext.afterReset (decide (k = .command))))[g].state = .active) ∧
      (s.gates.map (GateContext.afterReset (decide (k = .command))))[g].list = [] := by
    rw [getElem_map_fin]
    exact GateContext.afterReset_fits _ _
  have hnone : openIn (Vector.replicate 4 none) = 0 := by decide
  refine accounted_iff_agreed.mpr ?_
  cases k
  · exact Agreed.emptied (hgates .power) (Nat.zero_le _)
  · exact Agreed.emptied (hgates .line) hwritten
  · exact Agreed.emptied (hgates .command) hwritten

/-- A stage keeps the decision's gate and tap number. -/
theorem StageStep.names {s : State} {d d' : Decision} {k : CardData} (h : StageStep s d k d') : d'.names = d.names := by
  cases h with
  | sailing =>
    unfold sailingStage
    split
    · rfl
    · split
      · rfl
      · split <;> rfl
  | cardData =>
    unfold cardDataStage
    split <;> rfl
  | search => rfl
  | product =>
    unfold productStage
    split
    · rfl
    · dsimp only
      split <;> rfl
  | recheck => rfl
  | capacity | lost =>
    unfold capacityStage
    split <;> rfl
  | productKind =>
    unfold productKindStage
    split <;> rfl
  | fare _ _ _ _ kind =>
    cases kind
    · unfold fareStage
      dsimp only
      split <;> rfl
    · rfl
    · rfl

theorem SearchEnd.names {d d' : Decision} (h : SearchEnd d d') : d'.names = d.names := by
  cases h with
  | matched _ a => cases a <;> rfl
  | unmatched a => cases a <;> rfl

/-- The DECIDING transaction ends with its record (R15, R17). -/
theorem accounted_decided_ends {s u : State} (hs : Accounted s) {g : Gate} {tap : TapNumber} {t : Transaction}
    (hfind : findTap s.gates[g].list tap = some t) (hstate : t.state = .deciding)
    (hgates : u.gates = s.gates.set g (s.gates[g].ended tap)) (hwritten : u.written.length = s.written.length + 1)
    (hreserved : u.reserved = s.reserved - 1) (hopen : openIn u.sailings = openIn s.sailings) (hidle : u.engine = none) :
    Accounted u := by
  have hended := (accounted_iff_agreed.mp hs).ended hfind (e' := none) (slot := 1) (written' := s.written.length + 1)
    (by rw [hstate]; rfl) (by simp [Transaction.isPending, hstate]) le_rfl
  rw [accounted_iff_agreed, hgates, hwritten, hreserved, hopen, hidle]
  exact hended

/-- An open is given: the transaction waits for its passage, or ends with its record (R16, R17). -/
theorem accounted_opened {s : State} (hs : Accounted s) {d : Decision} {t : Transaction}
    (hfind : findTap s.gates[d.gate].list d.tap = some t) (hstate : t.state = .deciding)
    (hengine : s.engine = some d) : Accounted (engineIdle (s.giveOpen d t)) := by
  have htap := tap_of_findTap hfind
  obtain ⟨bank, waiting, out, heq⟩ := engineIdle_fields (s.giveOpen d t)
  rw [heq]
  cases hcounting : s.gates[d.gate].config.counting with
  | direct =>
    obtain ⟨sailings, out', htake, hopen⟩ := takePlace_fields s d .direct
    rw [State.giveOpen_direct s d t hcounting, htap, htake]
    exact accounted_decided_ends hs hfind hstate rfl (List.length_append ..) rfl (openIn_congr hopen) rfl
  | confirmed =>
    obtain ⟨sailings, out', htake, hopen⟩ := takePlace_fields s d .confirmed
    have hagreed := accounted_iff_agreed.mp hs
    rw [hengine] at hagreed
    have hchanged := hagreed.changed hfind (e' := none) (reserved' := s.reserved)
      (f := fun u => { u with state := .awaiting (awaitingOf s d (openOf d s.now)) }) (fun _ => rfl) (.inr rfl)
      (if_neg (nomatch ·)).symm (by simp [Transaction.isPending, hstate]) hagreed.total
    rw [← openIn_congr hopen] at hchanged
    rw [State.giveOpen_confirmed s d t hcounting, htap, htake]
    exact accounted_iff_agreed.mpr hchanged

theorem keeps_accounted (c : Instr) : Keeps c Accounted where
  quiet _ _ _ _ _ _ _ _ _ _ _ _ _ _ _ _ hs := hs
  taken _ _ _ hs _ := hs
  produced _ _ hs _ := hs
  arrived _ _ hs _ := hs
  sent _ _ _ hs _ := hs
  counted s g bad strays hs _ _ := by
    refine accounted_iff_agreed.mpr ((accounted_iff_agreed.mp hs).congr fun g' => ?_)
    simp only [State.setGate, getElem_set_fin]
    split
    · rename_i hg
      subst hg
      exact ⟨rfl, rfl, rfl⟩
    · exact ⟨rfl, rfl, rfl⟩
  tapped s g t hs _ hstate hpending hnew hroom :=
    accounted_iff_agreed.mpr ((accounted_iff_agreed.mp hs).joined hstate hpending hnew hroom)
  retried _ _ _ _ hs hfind hpending := accounted_ended_pending hs hfind hpending
  passed s g tap t a now hs hfind ht := by
    rw [← tap_of_findTap hfind] at hfind
    exact accounted_closedIfEmpty (accounted_boarded hs hfind ht now) g now
  turned s g tap t a kind now hs hfind ht := by
    rw [← tap_of_findTap hfind] at hfind
    exact accounted_closedIfEmpty (accounted_notBoarded hs hfind ht kind now) g now
  configured s g k hs hk := by
    obtain ⟨-, hagreed⟩ := (accounted_iff_agreed.mp hs).configured hk
    rw [State.refreshMode_eq]
    refine accounted_iff_agreed.mpr (hagreed.congr fun g' => ?_)
    rw [getElem_set_fin]
    split
    · rename_i hg
      subst hg
      exact ⟨rfl, rfl, rfl⟩
    · exact ⟨rfl, rfl, rfl⟩
  granted s g t hs heligible := by
    obtain ⟨hmem, hpending, -, -, hidle, -, hroom⟩ := heligible
    have hagreed := accounted_iff_agreed.mp hs
    have hfind := findTap_of_mem (hagreed.kept g).1 hmem
    rw [hidle] at hagreed
    rw [State.grantTo, State.reserveSlot_eq_reserved]
    refine accounted_reserved (hagreed.changed hfind (f := Transaction.granted) (fun _ => rfl) (.inl rfl) (if_pos rfl).symm ?_ ?_)
    · rw [hpending]
      rfl
    · change s.written.length + (s.reserved + 1) ≤ 256
      omega
  staged s d t d' n hs hengine _ hstep := by
    have hnames : d'.names = d.names := hstep.names
    have hagreed := accounted_iff_agreed.mp hs
    rw [hengine, Option.map_some, ← hnames] at hagreed
    exact accounted_iff_agreed.mpr hagreed
  searched s d t d' lp out fs hs hengine _ _ hend _ := by
    have hnames : d'.names = d.names := hend.names
    have hagreed := accounted_iff_agreed.mp hs
    rw [hengine, Option.map_some, ← hnames] at hagreed
    exact accounted_iff_agreed.mpr hagreed
  refused s d t r hs hdeciding _ := by
    obtain ⟨-, hengine, -, hfind⟩ := hdeciding
    obtain ⟨u, hu, hstate⟩ := hs.deciding hengine
    obtain rfl : t = u := Option.some.inj (hfind.symm.trans hu)
    obtain ⟨bank, waiting, out, heq⟩ := engineIdle_fields (s.giveRefusal d t r)
    have htap := tap_of_findTap hu
    rw [heq, State.giveRefusal_eq, htap]
    refine accounted_decided_ends hs hu hstate rfl (List.length_append ..) rfl ?_ rfl
    change openIn (match d.found with | some f => _ | none => s.sailings) = _
    split
    · split
      · rfl
      · exact openIn_set_map ..
    · rfl
  opened s d t hs hdeciding _ := by
    obtain ⟨-, hengine, -, hfind⟩ := hdeciding
    obtain ⟨u, hu, hstate⟩ := hs.deciding hengine
    obtain rfl : t = u := Option.some.inj (hfind.symm.trans hu)
    exact accounted_opened hs hu hstate hengine
  writeWaits _ _ hs _ _ := hs
  loaded s n _ _ _ hs _ _ := by cases n <;> exact hs
  cleared s n _ hs _ := by cases n <;> exact hs
  activated _ _ hs _ := hs
  activationWaits _ _ hs _ _ _ := hs
  slotLoaded _ _ _ _ hs _ _ _ := hs
  slotCleared _ _ hs _ := hs
  sailingOpened s b id line given now hs _ hclosed _ hroom := by
    have hagreed := accounted_iff_agreed.mp hs
    obtain ⟨armed, out, heq⟩ := reserved_fields s
    have hopen := openIn_set s.sailings b (some (openedSailing id line (clampCapacity s.ceilings b given) now))
    simp only [hclosed, Option.isSome_some, if_true, Option.isSome_none, Bool.false_eq_true, if_false, Nat.add_zero] at hopen
    rw [heq]
    refine accounted_iff_agreed.mpr ⟨hagreed.kept, hagreed.deciding, hagreed.found, ?_, ?_⟩
    · change s.reserved + 1 = _ + openIn (s.sailings.set b _)
      rw [hopen, hagreed.reserved_eq, Nat.add_assoc]
      rfl
    · have hroom := (State.canReserve_iff s).mp hroom
      change s.written.length + (s.reserved + 1) ≤ 256
      omega
  sailingClosed _ _ _ now hs hsl _ := accounted_closed hs hsl now
  sailingLeaves s b sl hs hsl _ _ := by
    have hagreed := accounted_iff_agreed.mp hs
    have hopen : openIn (s.sailings.set b (some { sl with state := .closing })) = openIn s.sailings := by
      have hset := openIn_set_map s.sailings b fun sl => { sl with state := .closing }
      rw [hsl] at hset
      exact hset
    have hnames := decision_names_noted s.engine (f := fun d =>
      if d.found.map (·.berth) = some b ∧ d.change ≠ .closed then { d with change := .left } else d)
      fun d => by split <;> rfl
    rw [← hopen, ← hnames] at hagreed
    rw [State.noteChange_eq]
    exact accounted_iff_agreed.mpr hagreed
  timeSet _ _ _ hs _ _ := hs
  secondPassed _ _ _ hs _ _ := hs
  limited _ _ _ hs _ _ _ := hs
  adjusted _ _ hs _ := hs
  acked s i hs := by
    refine ⟨hs.1, hs.2.1, hs.2.2.1, ?_⟩
    have hlen : (s.written.drop i).length ≤ s.written.length := by simp
    exact (Nat.add_le_add_right hlen _).trans hs.2.2.2
  started _ hs _ _ _ _ := accounted_modesSent hs .inService
  stopped _ hs _ _ := accounted_modesSent hs .config
  mustered _ hs _ := accounted_musterEntry hs
  resumed s hs _ := by
    have hopen : openIn (s.sailings.map fun o => o.map Sailing.resumed) = openIn s.sailings :=
      openIn_congr fun b => by rw [getElem_map_fin, Option.isSome_map]
    have hagreed := accounted_iff_agreed.mp hs
    rw [← hopen] at hagreed
    rw [State.musterExit, State.refreshModes_eq]
    exact accounted_modesSent (s := { s with sailings := s.sailings.map fun o => o.map Sailing.resumed })
      (accounted_iff_agreed.mpr hagreed) .inService
  phased _ _ hs _ := hs
  began s p hs := by
    have hnone : openIn (Vector.replicate 4 none) = 0 := by decide
    have hwritten : s.written.length ≤ 256 := (Nat.le_add_right _ _).trans hs.2.2.2
    have hempty := Agreed.emptied (v := s.gates.map fun c => { c with list := [] }) (written := s.written.length)
      (fun g => by
        obtain ⟨-, -, hactive, -⟩ := hs.1 g
        rw [getElem_map_fin]
        exact ⟨hactive, rfl⟩) hwritten
    rw [← hnone] at hempty
    exact accounted_iff_agreed.mpr hempty
  cameOut s k _ hs := accounted_comeOut hs k

/-- Settles O56: each move changes transactions, decision and reservations together. -/
theorem stepKeepsReservations : Obligations.StepKeepsReservations := fun _ _ hs hstep =>
  Keeps.step keeps_accounted (fun _ _ hs => hs) hs hstep

end Sys2Proof.Machine
end

section
/-! The law of slot uses does not stand by itself (R34, R110): it lets a decision in its search bear a refusal already, and then
an entry that binds a slot gives a refused decision a slot. -/
namespace Sys2Proof.Machine
open Sys2Proof.Claims

/-- A decision in its search that bears a refusal: a state no run comes to, since every refusal leads to stage 8 (R31). -/
def refusedInSearch : Decision where
  gate := 0
  tap := 1
  stage := .searching
  bank := .bankA
  time := ⟨0, 0⟩
  found := none
  change := .unchanged
  occupancy := none
  filterIndex := none
  crew := false
  inspect := false
  slot := none
  kind := none
  fareValue := 0
  credit := 0
  charged := 0
  newBalance := none
  refusal := some .listed

/-- The card of the tap: media number 7 of issuer 1. -/
def searchedCard : CardData := ⟨7, 1, 0, 0, 0, none, none⟩

/-- A part whose only transaction is in its search, with an entry 0 that binds slot 5 to media number 7. -/
def searchingWithRefusal : State :=
  { State.reset with
    pending := [.filterSearchComplete]
    gates := State.reset.gates.set 0
      { config := { GateSettings.default with enabled := true }
        state := .active
        list := [⟨1, searchedCard, 0, .deciding⟩]
        modeSent := some .closed
        badFrames := 0
        strays := 0 }
    engine := some refusedInSearch
    reserved := 1
    filters := State.reset.filters.set 0 (some ⟨.slot 5, .range, 7, 7, none⟩) }

theorem accounted_searchingWithRefusal : Accounted searchingWithRefusal := by decide +kernel

theorem usesKept_searchingWithRefusal : UsesKept searchingWithRefusal :=
  ⟨by decide +kernel, by decide +kernel, by decide +kernel⟩

/-- The search ends at entry 0: the decision has slot 5 and its old refusal. -/
theorem step_searchingWithRefusal : ∃ t d, step searchingWithRefusal = .next t ∧ t.engine = some d ∧ d.slot = some 5
    ∧ d.refusal = some .listed :=
  ⟨_, _, rfl, rfl, rfl, rfl⟩

/-- Refutes O58: the law allows a refusal before stage 8, and such a decision is given a slot by the filter. -/
theorem not_stepKeepsSlotUses : ¬ Obligations.StepKeepsSlotUses := by
  intro h
  obtain ⟨t, d, hstep, hengine, hslot, hrefusal⟩ := step_searchingWithRefusal
  obtain ⟨-, -, hbinding⟩ := h _ t accounted_searchingWithRefusal usesKept_searchingWithRefusal hstep
  obtain ⟨-, hdropped, -⟩ := hbinding d hengine
  have hnone : d.slot = none := hdropped (by rw [hrefusal]; rfl)
  rw [hslot] at hnone
  cases hnone

end Sys2Proof.Machine
end

section
/-! Held places and awaiting passengers (R63, R66, R67): what endings, closes and opens make of them. -/
namespace Sys2Proof.Machine
open Sys2Proof.Claims

/-! ### Passengers counted, and what a sailing holds -/

/-- A passenger who awaits the passage at a gate of berth b (R67). -/
def rides (b : BerthNo) (v : GateSettings) (t : Transaction) : Bool :=
  decide (v.berth = some b ∧ t.awaiting?.map (·.place) = some .passenger)

theorem State.passengersAt_eq (s : State) (b : BerthNo) : s.passengersAt b = countOf (rides b) s.gates :=
  countP_transactions s (rides b)

theorem rides_of_awaiting {t : Transaction} {a : Awaiting} (ht : t.state = .awaiting a) (b : BerthNo) (v : GateSettings) :
    rides b v t = decide (v.berth = some b ∧ a.place = .passenger) := by
  simp [rides, Transaction.awaiting?, ht]

theorem rides_of_not_awaiting {t : Transaction} (ht : ∀ a, t.state ≠ .awaiting a) (b : BerthNo) (v : GateSettings) :
    rides b v t = false := by
  unfold rides Transaction.awaiting?
  cases hstate : t.state with
  | awaiting a => exact absurd hstate (ht a)
  | pending | deciding => simp

theorem State.transactions_eq_nil_iff (s : State) : s.transactions = [] ↔ ∀ g : Gate, s.gates[g].list = [] := by
  simp [State.transactions]

/-- The places a berth holds. -/
def heldOf : Option Sailing → Nat
  | some sl => sl.held
  | none => 0

/-- Boarded plus held within the capacity, and that within the ceiling (R63, R66). -/
def Sailing.fits (sl : Sailing) (ceilings : Option (Vector Nat 4)) (b : BerthNo) : Prop :=
  sl.boarded + sl.held ≤ sl.capacity ∧ 1 ≤ sl.capacity ∧ ∀ tops ∈ ceilings, sl.capacity ≤ tops[b]

/-- Each berth holds as many places as passengers await at its gates, and its sailing is within its bounds. -/
def PlacesTrue (s : State) : Prop :=
  ∀ b : BerthNo, countOf (rides b) s.gates = heldOf s.sailings[b] ∧ ∀ sl ∈ s.sailings[b], sl.fits s.ceilings b

/-- A CLOSING sailing of the berth holds a place (R74). -/
def ClosingHolds (s : State) (b : BerthNo) : Prop := ∀ sl ∈ s.sailings[b], sl.state = .closing → 0 < sl.held

theorem berthKept_iff (s : State) (b : BerthNo) :
    BerthKept s b ↔ (countOf (rides b) s.gates = heldOf s.sailings[b] ∧ ∀ sl ∈ s.sailings[b], sl.fits s.ceilings b)
      ∧ ClosingHolds s b := by
  unfold BerthKept ClosingHolds
  rw [State.passengersAt_eq]
  constructor
  · rintro ⟨hheld, hsailing⟩
    refine ⟨⟨hheld.trans ?_, fun sl hsl => ?_⟩, fun sl hsl => (hsailing sl hsl).2.2.2⟩
    · cases s.sailings[b] <;> rfl
    · obtain ⟨hroom, hone, htops, -⟩ := hsailing sl hsl
      exact ⟨hroom, hone, htops⟩
  · rintro ⟨⟨hheld, hfits⟩, hclosing⟩
    refine ⟨hheld.trans ?_, fun sl hsl => ?_⟩
    · cases s.sailings[b] <;> rfl
    · obtain ⟨hroom, hone, htops⟩ := hfits sl hsl
      exact ⟨hroom, hone, htops, hclosing sl hsl⟩

theorem placesKept_iff (s : State) :
    PlacesKept s ↔ ServiceFits s ∧ PlacesTrue s ∧ (∀ b, ClosingHolds s b) ∧ ∀ d ∈ s.engine, DecisionKept s d := by
  unfold PlacesKept PlacesTrue
  simp only [berthKept_iff, forall_and]
  tauto

/-! ### One berth changed -/

theorem PlacesTrue.congr {s u : State} (hs : PlacesTrue s) (hcount : ∀ b, countOf (rides b) u.gates = countOf (rides b) s.gates)
    (hsailings : u.sailings = s.sailings) (hceilings : u.ceilings = s.ceilings) : PlacesTrue u := fun b => by
  rw [hcount, hsailings, hceilings]
  exact hs b

theorem PlacesTrue.set {s u : State} (hs : PlacesTrue s) {b : BerthNo} {o : Option Sailing}
    (hsailings : u.sailings = s.sailings.set b o) (hceilings : u.ceilings = s.ceilings)
    (hother : ∀ b', b' ≠ b → countOf (rides b') u.gates = countOf (rides b') s.gates)
    (hheld : countOf (rides b) u.gates = heldOf o) (hfits : ∀ sl ∈ o, sl.fits s.ceilings b) : PlacesTrue u := by
  intro b'
  rw [hsailings, hceilings, getElem_set_fin]
  split
  · rename_i hb
    subst hb
    exact ⟨hheld, hfits⟩
  · rename_i hb
    rw [hother b' (Ne.symm hb)]
    exact hs b'

theorem closingHolds_set {s u : State} {b : BerthNo} {o : Option Sailing} (hsailings : u.sailings = s.sailings.set b o)
    (hs : ∀ b', ClosingHolds s b') (ho : ∀ sl ∈ o, sl.state = .closing → 0 < sl.held) (b' : BerthNo) : ClosingHolds u b' := by
  unfold ClosingHolds
  rw [hsailings, getElem_set_fin]
  split
  · exact ho
  · exact hs b'

/-! ### Service state (R157) -/

/-- What service requires: clock, ceilings and active bank (R158). -/
def State.equipped (s : State) : Prop := s.clock.isSome = true ∧ s.ceilings.isSome = true ∧ s.activeBank.isSome = true

theorem serviceFits_iff (s : State) :
    ServiceFits s ↔ (s.service ≠ .inService → ∀ g : Gate, s.gates[g].list = []) ∧
      (s.service = .config → ∀ b : BerthNo, s.sailings[b] = none) ∧
      (∀ b : BerthNo, ∀ sl ∈ s.sailings[b], sl.state = .suspended → s.service = .muster) ∧
      (s.service ≠ .config → s.equipped) := by
  unfold ServiceFits State.equipped
  rw [State.transactions_eq_nil_iff]

/-- In IN_SERVICE nothing is asked of the lists, and no sailing may be SUSPENDED. -/
theorem serviceFits_inService {s : State} (hservice : s.service = .inService)
    (hsailings : ∀ b : BerthNo, ∀ sl ∈ s.sailings[b], sl.state ≠ .suspended) (hequipped : s.equipped) : ServiceFits s :=
  (serviceFits_iff s).mpr ⟨fun h => absurd hservice h, fun h => (by rw [hservice] at h; cases h),
    fun b sl hsl h => absurd h (hsailings b sl hsl), fun _ => hequipped⟩

/-- A transaction stands in service alone (R157). -/
theorem ServiceFits.inService {s : State} (hs : ServiceFits s) {g : Gate} {t : Transaction} (ht : t ∈ s.gates[g].list) :
    s.service = .inService := by
  by_contra h
  rw [((serviceFits_iff s).mp hs).1 h g] at ht
  cases ht

theorem ServiceFits.equipped {s : State} (hs : ServiceFits s) (h : s.service = .inService) : s.equipped :=
  ((serviceFits_iff s).mp hs).2.2.2 (by rw [h]; exact nofun)

theorem ServiceFits.not_suspended {s : State} (hs : ServiceFits s) (h : s.service = .inService) {b : BerthNo} {sl : Sailing}
    (hsl : sl ∈ s.sailings[b]) : sl.state ≠ .suspended := fun hstate => by
  have hmuster := ((serviceFits_iff s).mp hs).2.2.1 b sl hsl hstate
  rw [h] at hmuster
  cases hmuster

/-- Work taken away, and nothing else that service looks at: the service state still fits. -/
theorem ServiceFits.less {s u : State} (hs : ServiceFits s) (hservice : u.service = s.service)
    (hlists : s.service ≠ .inService → ∀ g : Gate, s.gates[g].list = [] → u.gates[g].list = [])
    (hsailings : ∀ b : BerthNo, ∀ sl ∈ u.sailings[b], ∃ sl' ∈ s.sailings[b], sl.state = .suspended → sl'.state = .suspended)
    (hequipped : s.equipped → u.equipped) : ServiceFits u := by
  obtain ⟨hnone, hclosed, hsuspended, hready⟩ := (serviceFits_iff s).mp hs
  rw [serviceFits_iff, hservice]
  refine ⟨fun h g => hlists h g (hnone h g), fun h b => ?_, fun b sl hsl hstate => ?_, fun h => hequipped (hready h)⟩
  · cases hsl : u.sailings[b] with
    | none => rfl
    | some sl =>
      obtain ⟨sl', hsl', -⟩ := hsailings b sl hsl
      rw [hclosed h b] at hsl'
      cases hsl'
  · obtain ⟨sl', hsl', himp⟩ := hsailings b sl hsl
    exact hsuspended b sl' hsl' (himp hstate)

/-! ### The decision in progress -/

/-- A decision stays well kept while its gate keeps its berth and its sailing still boards. -/
theorem DecisionKept.transfer {s u : State} {d : Decision} (hd : DecisionKept s d)
    (hberth : u.gates[d.gate].config.berth = s.gates[d.gate].config.berth)
    (hboards : d.change = .unchanged → ∀ f ∈ d.found, StillBoarding s d f → StillBoarding u d f) : DecisionKept u d := by
  obtain ⟨hgate, hfirst, hrefused, hcrew, hfound, hroom, hstill⟩ := hd
  refine ⟨fun f hf => (hberth ▸ hgate f hf), hfirst, hrefused, hcrew, hfound, hroom, fun h f hf => ?_⟩
  exact hboards h.2 f hf (hstill h f hf)

/-- Nothing is asked of the sailing once a change is noted. -/
theorem DecisionKept.changed {s u : State} {d : Decision} (hd : DecisionKept s d)
    (hberth : u.gates[d.gate].config.berth = s.gates[d.gate].config.berth) {k : SailingChange} (hk : k ≠ .unchanged) :
    DecisionKept u { d with change := k } := by
  obtain ⟨hgate, hfirst, hrefused, hcrew, hfound, hroom, -⟩ := hd
  refine ⟨fun f hf => (hberth ▸ hgate f hf), hfirst, hrefused, hcrew, hfound, fun h => ?_, fun h => absurd h.2 hk⟩
  exact (hroom h).imp_right fun hlost => ⟨hlost.1, hk⟩

/-- The sailing found still boards when it is the same one with no less room. -/
theorem StillBoarding.transfer {s u : State} {d : Decision} {f : SailingFound} (h : StillBoarding s d f)
    (hsailing : ∀ sl ∈ s.sailings[f.berth], ∃ sl' ∈ u.sailings[f.berth], sl'.state = sl.state ∧ sl'.id = sl.id ∧
      (sl.boarded + sl.held < sl.capacity → sl'.boarded + sl'.held < sl'.capacity)) : StillBoarding u d f := by
  obtain ⟨sl, hsl, hstate, hid, hroom⟩ := h
  obtain ⟨sl', hsl', hstate', hid', hroom'⟩ := hsailing sl hsl
  exact ⟨sl', hsl', hstate'.trans hstate, hid'.trans hid, fun hpast => hroom' (hroom hpast)⟩

/-! ### A place given up or taken for good (R19, R20, R22) -/

/-- The same sailing with n held places fewer and at most n boarded more. -/
structure Settles (n : Nat) (F : Sailing → Sailing) : Prop where
  state (sl : Sailing) : (F sl).state = sl.state
  id (sl : Sailing) : (F sl).id = sl.id
  capacity (sl : Sailing) : (F sl).capacity = sl.capacity
  held (sl : Sailing) : (F sl).held = sl.held - n
  boarded (sl : Sailing) : (F sl).boarded ≤ sl.boarded + n

/-- The places that an awaiting transaction holds. -/
def Awaiting.places (a : Awaiting) : Nat := if a.place = .passenger then 1 else 0

theorem countOf_rides_ended {v : Vector GateContext 16} {g : Gate} {tap : TapNumber} {t : Transaction} {a : Awaiting}
    (hfind : findTap v[g].list tap = some t) (ht : t.state = .awaiting a) (b : BerthNo) :
    countOf (rides b) (v.set g (v[g].ended tap)) + (if v[g].config.berth = some b then a.places else 0) =
      countOf (rides b) v := by
  rw [← countOf_ended (rides b) hfind, rides_of_awaiting ht]
  unfold Awaiting.places
  by_cases ha : a.place = .passenger <;> simp [ha]

/-- A transaction that does not await its passage ends or changes without a place. -/
theorem countOf_rides_ended_other {v : Vector GateContext 16} {g : Gate} {tap : TapNumber} {t : Transaction}
    (hfind : findTap v[g].list tap = some t) (ht : ∀ a, t.state ≠ .awaiting a) (b : BerthNo) :
    countOf (rides b) (v.set g (v[g].ended tap)) = countOf (rides b) v := by
  rw [← countOf_ended (rides b) hfind, rides_of_not_awaiting ht, if_neg Bool.false_ne_true, Nat.add_zero]

section
variable {s u : State} {g : Gate} {tap : TapNumber} {t : Transaction} {a : Awaiting} {F : Sailing → Sailing}

/-- Held places fall with the passengers who await them. -/
theorem PlacesTrue.settled (hs : PlacesTrue s) (hfind : findTap s.gates[g].list tap = some t) (ht : t.state = .awaiting a)
    (hF : Settles a.places F) (hgates : u.gates = s.gates.set g (s.gates[g].ended tap))
    (hsailings : u.sailings = (onSailingOf s g F).sailings) (hceilings : u.ceilings = s.ceilings) : PlacesTrue u := by
  have hcount := countOf_rides_ended (v := s.gates) hfind ht
  cases hberth : s.gates[g].config.berth with
  | none =>
    simp only [onSailingOf, hberth] at hsailings
    refine hs.congr (fun b => ?_) hsailings hceilings
    have hb := hcount b
    rw [hberth, if_neg (Option.some_ne_none b).symm, Nat.add_zero] at hb
    rw [hgates, hb]
  | some b =>
    simp only [onSailingOf, hberth] at hsailings
    obtain ⟨hheld, hfits⟩ := hs b
    have hb := hcount b
    rw [hberth, if_pos rfl] at hb
    refine hs.set hsailings hceilings (fun b' hb' => ?_) ?_ ?_
    · have hb'' := hcount b'
      rw [hberth, if_neg (fun h => hb' (Option.some.inj h).symm), Nat.add_zero] at hb''
      rw [hgates, hb'']
    · rw [hgates]
      cases hsl : s.sailings[b] with
      | none =>
        rw [hsl] at hheld
        change _ = 0
        change _ = 0 at hheld
        omega
      | some sl =>
        rw [hsl] at hheld
        change _ = (F sl).held
        change _ = sl.held at hheld
        rw [hF.held]
        omega
    · intro sl' hsl'
      obtain ⟨sl, hsl, rfl⟩ := Option.map_eq_some_iff.mp hsl'
      obtain ⟨hroom, hone, htops⟩ := hfits sl hsl
      rw [hsl] at hheld
      change _ = sl.held at hheld
      unfold Sailing.fits
      rw [hF.capacity, hF.held]
      have hboarded := hF.boarded sl
      exact ⟨by omega, hone, htops⟩

/-- The sailing that a decision found is the same one after the ending, with no less room. -/
theorem StillBoarding.settled {d : Decision} {f : SailingFound} (h : StillBoarding s d f) (hs : PlacesTrue s)
    (hfind : findTap s.gates[g].list tap = some t) (ht : t.state = .awaiting a)
    (hF : Settles a.places F) (hsailings : u.sailings = (onSailingOf s g F).sailings) : StillBoarding u d f := by
  refine h.transfer fun sl hsl => ?_
  unfold onSailingOf at hsailings
  dsimp only at hsailings
  split at hsailings
  · rename_i b hberth
    rw [hsailings, getElem_set_fin]
    split
    · rename_i hb
      subst hb
      have hcount := countOf_rides_ended (v := s.gates) hfind ht f.berth
      obtain ⟨hheld, -⟩ := hs f.berth
      rw [hberth, if_pos rfl] at hcount
      rw [hsl] at hheld
      change _ = sl.held at hheld
      have hboarded := hF.boarded sl
      refine ⟨F sl, by rw [hsl]; rfl, hF.state sl, hF.id sl, fun hroom => ?_⟩
      rw [hF.capacity, hF.held]
      omega
    · exact ⟨sl, hsl, rfl, rfl, fun h => h⟩
  · rw [hsailings]
    exact ⟨sl, hsl, rfl, rfl, fun h => h⟩

end

theorem settles_boarded (a : Awaiting) : Settles a.places fun sl => match a.place with
    | .passenger => { sl with
        held := sl.held - 1
        boarded := sl.boarded + 1
        revenue := min 4294967295 (sl.revenue + a.verdict.charged) }
    | .crew => { sl with crew := min 255 (sl.crew + 1) }
    | .nothing => sl := by
  unfold Awaiting.places
  constructor <;> intro sl <;> cases a.place <;> simp

theorem settles_notBoarded (a : Awaiting) : Settles a.places fun sl => match a.place with
    | .passenger => { sl with
        held := sl.held - 1
        alertArmed := decide (sl.boarded + (sl.held - 1) < sl.capacity) || sl.alertArmed }
    | _ => sl := by
  unfold Awaiting.places
  constructor <;> intro sl <;> cases a.place <;> simp

end Sys2Proof.Machine
end

section
/-! Places through closes, endings, verdicts and muster entry (R16, R17, R66, R67, R73 to R76, R149 to R152). -/
namespace Sys2Proof.Machine
open Sys2Proof.Claims

/-! ### A sailing that closes (R75) -/

theorem countOf_rides_closed (s : State) (b : BerthNo) (sl : Sailing) (now : ServiceTime) (b' : BerthNo) :
    countOf (rides b') (closed s b sl now).gates = countOf (rides b') s.gates := by
  refine countOf_congr fun g => ?_
  simp only [closed, recorded, getElem_map_fin]
  split
  · rw [List.countP_map]
    refine List.countP_congr fun t _ => ?_
    cases ht : t.state with
    | awaiting a => cases ha : a.place <;> simp [rides, Transaction.awaiting?, ht, ha]
    | pending | deciding => simp [ht]
  · rfl

theorem PlacesTrue.closed {s : State} (hs : PlacesTrue s) {b : BerthNo} {sl : Sailing} (hsl : s.sailings[b] = some sl)
    (hempty : sl.held = 0) (now : ServiceTime) : PlacesTrue (closed s b sl now) := by
  refine hs.set (o := none) rfl rfl (fun b' _ => countOf_rides_closed s b sl now b') ?_ (by simp)
  have hheld := (hs b).1
  rw [hsl] at hheld
  exact (countOf_rides_closed s b sl now b).trans (hheld.trans hempty)

theorem closed_config (s : State) (b : BerthNo) (sl : Sailing) (now : ServiceTime) (g : Gate) :
    (closed s b sl now).gates[g].config = s.gates[g].config := by
  simp only [closed, recorded, getElem_map_fin]
  split <;> rfl

theorem closed_list_nil {s : State} {g : Gate} (h : s.gates[g].list = []) (b : BerthNo) (sl : Sailing) (now : ServiceTime) :
    (closed s b sl now).gates[g].list = [] := by
  simp only [closed, recorded, getElem_map_fin]
  split
  · rw [h]
    rfl
  · exact h

theorem decisionKept_closed {s : State} (hd : ∀ d ∈ s.engine, DecisionKept s d) (b : BerthNo) (sl : Sailing) (now : ServiceTime) :
    ∀ d ∈ (closed s b sl now).engine, DecisionKept (closed s b sl now) d := by
  intro d' hd'
  obtain ⟨d, hmem, rfl⟩ := Option.map_eq_some_iff.mp hd'
  split
  · exact (hd d hmem).changed (congrArg GateSettings.berth (closed_config ..)) (by decide)
  · rename_i hfound
    refine (hd d hmem).transfer (congrArg GateSettings.berth (closed_config ..)) fun _ f hf h => h.transfer fun sl' hsl' => ?_
    have hne : b ≠ f.berth := fun hb => hfound (by rw [hf, hb]; rfl)
    refine ⟨sl', ?_, rfl, rfl, fun h => h⟩
    change sl' ∈ (s.sailings.set b none)[f.berth]
    rw [getElem_set_fin_ne _ hne]
    exact hsl'

theorem ServiceFits.closed {s : State} (hs : ServiceFits s) (b : BerthNo) (sl : Sailing) (now : ServiceTime) :
    ServiceFits (closed s b sl now) := by
  refine hs.less rfl (fun _ g h => closed_list_nil h b sl now) (fun b' sl' hsl' => ?_) (fun h => h)
  change sl' ∈ (s.sailings.set b none)[b'] at hsl'
  rw [getElem_set_fin] at hsl'
  split at hsl'
  · cases hsl'
  · exact ⟨sl', hsl', fun h => h⟩

/-- Places as they should be, but for a CLOSING sailing at the berth of gate g that may hold none any more. -/
def PlacesKeptBut (g : Gate) (s : State) : Prop :=
  ServiceFits s ∧ PlacesTrue s ∧ (∀ b, s.gates[g].config.berth ≠ some b → ClosingHolds s b) ∧ ∀ d ∈ s.engine, DecisionKept s d

theorem PlacesKeptBut.closed {g : Gate} {s : State} (hs : PlacesKeptBut g s) {b : BerthNo} {sl : Sailing}
    (hb : ∀ b', s.gates[g].config.berth = some b' → b' = b ∨ ClosingHolds s b') (hsl : s.sailings[b] = some sl)
    (hempty : sl.held = 0) (now : ServiceTime) :
    PlacesKept (closed s b sl now) := by
  obtain ⟨hservice, hplaces, hclosing, hdecision⟩ := hs
  refine (placesKept_iff _).mpr ⟨hservice.closed b sl now, hplaces.closed hsl hempty now, fun b' => ?_,
    decisionKept_closed hdecision b sl now⟩
  change ∀ sl' ∈ (s.sailings.set b none)[b'], _
  rw [getElem_set_fin]
  split
  · simp
  · rename_i hne
    by_cases hb' : s.gates[g].config.berth = some b'
    · exact (hb b' hb').resolve_left (Ne.symm hne)
    · exact hclosing b' hb'

/-- The close that follows an ending restores the law (R74). -/
theorem PlacesKeptBut.closedIfEmpty {g : Gate} {s : State} (hs : PlacesKeptBut g s) (now : ServiceTime) :
    PlacesKept (closedIfEmpty s g now) := by
  have hwhole (h : ∀ b, s.gates[g].config.berth = some b → ClosingHolds s b) : PlacesKept s := by
    obtain ⟨hservice, hplaces, hclosing, hdecision⟩ := hs
    refine (placesKept_iff s).mpr ⟨hservice, hplaces, fun b => ?_, hdecision⟩
    by_cases hb : s.gates[g].config.berth = some b
    · exact h b hb
    · exact hclosing b hb
  unfold Claims.closedIfEmpty
  cases hberth : s.gates[g].config.berth with
  | none => exact hwhole fun b hb => by rw [hberth] at hb; cases hb
  | some b =>
    dsimp only
    cases hsl : s.sailings[b] with
    | none =>
      refine hwhole fun b' hb' sl hsl' => ?_
      rw [hberth] at hb'
      cases hb'
      rw [hsl] at hsl'
      cases hsl'
    | some sl =>
      dsimp only
      split
      · rename_i hclosing
        exact hs.closed (fun b' hb' => .inl (by rw [hberth] at hb'; cases hb'; rfl)) hsl hclosing.2 now
      · rename_i hopen
        refine hwhole fun b' hb' sl' hsl' hstate => ?_
        rw [hberth] at hb'
        cases hb'
        rw [hsl] at hsl'
        cases hsl'
        exact Nat.pos_of_ne_zero fun hzero => hopen ⟨hstate, hzero⟩

/-- A sailing that holds no place closes, and the law stands (R73, R75). -/
theorem placesKept_closed {s : State} (hs : PlacesKept s) {b : BerthNo} {sl : Sailing} (hsl : s.sailings[b] = some sl)
    (hempty : sl.state = .suspended ∨ sl.held = 0) (now : ServiceTime) : PlacesKept (closed s b sl now) := by
  obtain ⟨hservice, hplaces, hclosing, hdecision⟩ := (placesKept_iff s).mp hs
  have hzero : sl.held = 0 := by
    rcases hempty with hsuspended | hzero
    · obtain ⟨hnone, -, hmuster, -⟩ := (serviceFits_iff s).mp hservice
      have hout : s.service ≠ .inService := by rw [hmuster b sl hsl hsuspended]; decide
      have hheld := (hplaces b).1
      rw [countOf_of_empty (hnone hout), hsl] at hheld
      exact hheld.symm
    · exact hzero
  exact PlacesKeptBut.closed (g := 0) ⟨hservice, hplaces, fun b _ => hclosing b, hdecision⟩
    (fun b' _ => .inr (hclosing b')) hsl hzero now

/-! ### Endings (R19, R20, R22) -/

theorem ended_config {s u : State} {g : Gate} {tap : TapNumber} (hgates : u.gates = s.gates.set g (s.gates[g].ended tap))
    (g' : Gate) : u.gates[g'].config = s.gates[g'].config := by
  rw [hgates, getElem_set_fin]
  split
  · rename_i hg
    subst hg
    rfl
  · rfl

/-- An awaiting transaction settled: the law but for the close that may follow. -/
theorem PlacesKept.settled {s u : State} (hs : PlacesKept s) {g : Gate} {tap : TapNumber} {t : Transaction} {a : Awaiting}
    {F : Sailing → Sailing} (hfind : findTap s.gates[g].list tap = some t) (ht : t.state = .awaiting a)
    (hF : Settles a.places F) (hgates : u.gates = s.gates.set g (s.gates[g].ended tap))
    (hsailings : u.sailings = (onSailingOf s g F).sailings) (hceilings : u.ceilings = s.ceilings)
    (hservice : u.service = s.service) (hequipped : s.equipped → u.equipped) (hengine : u.engine = s.engine) :
    PlacesKeptBut g u := by
  obtain ⟨hfits, hplaces, hclosing, hdecision⟩ := (placesKept_iff s).mp hs
  have hin := hfits.inService (mem_of_findTap hfind)
  have hconfig := ended_config hgates
  refine ⟨serviceFits_inService (hservice.trans hin) (fun b sl hsl hstate => ?_) (hequipped (hfits.equipped hin)),
    hplaces.settled hfind ht hF hgates hsailings hceilings, fun b hb => ?_, fun d hd => ?_⟩
  · rw [hsailings] at hsl
    unfold onSailingOf at hsl
    dsimp only at hsl
    split at hsl
    · rw [getElem_set_fin] at hsl
      split at hsl
      · obtain ⟨sl', hsl', rfl⟩ := Option.map_eq_some_iff.mp hsl
        rw [hF.state] at hstate
        exact hfits.not_suspended hin hsl' hstate
      · exact hfits.not_suspended hin hsl hstate
    · exact hfits.not_suspended hin hsl hstate
  · rw [hconfig] at hb
    unfold ClosingHolds
    rw [hsailings]
    unfold onSailingOf
    dsimp only
    split
    · rename_i b' hberth
      have hne : b' ≠ b := fun h => hb (hberth.trans (congrArg some h))
      rw [getElem_set_fin_ne _ hne]
      exact hclosing b
    · exact hclosing b
  · rw [hengine] at hd
    exact (hdecision d hd).transfer (congrArg GateSettings.berth (hconfig d.gate))
      fun _ f _ h => h.settled hplaces hfind ht hF hsailings

/-! ### A transaction that awaits nothing ends, and the engine is idle or as it was -/

/-- A transaction without a place ends and the sailings stay as they are (R13, R15). -/
theorem PlacesTrue.ended {s u : State} (hs : PlacesTrue s) {g : Gate} {tap : TapNumber} {t : Transaction}
    (hfind : findTap s.gates[g].list tap = some t) (ht : ∀ a, t.state ≠ .awaiting a)
    (hgates : u.gates = s.gates.set g (s.gates[g].ended tap)) (hsailings : u.sailings = s.sailings)
    (hceilings : u.ceilings = s.ceilings) : PlacesTrue u :=
  hs.congr (fun b => by rw [hgates, countOf_rides_ended_other hfind ht]) hsailings hceilings

theorem not_awaiting_of_pending {t : Transaction} (h : t.isPending = true) (a : Awaiting) : t.state ≠ .awaiting a :=
  fun ht => by simp [Transaction.isPending, ht] at h

theorem not_awaiting_of_deciding {t : Transaction} (h : t.state = .deciding) (a : Awaiting) : t.state ≠ .awaiting a := by
  rw [h]
  exact nofun

end Sys2Proof.Machine
end

section
/-! Places through verdicts and muster entry (R15 to R17, R39, R66, R149 to R152). -/
namespace Sys2Proof.Machine
open Sys2Proof.Claims

/-! ### Sailings that change in nothing that the law looks at -/

section
variable {s u : State}

/-- Each berth's sailing keeps its state, its counts of places and its capacity. -/
def SameSailings (s u : State) : Prop :=
  ∀ b : BerthNo, ∃ F, Settles 0 F ∧ u.sailings[b] = s.sailings[b].map F

theorem Settles.refl : Settles 0 (fun sl => sl) :=
  ⟨fun _ => rfl, fun _ => rfl, fun _ => rfl, fun _ => rfl, fun _ => le_rfl⟩

theorem SameSailings.of_eq (h : u.sailings = s.sailings) : SameSailings s u :=
  fun b => ⟨_, Settles.refl, by rw [h, Option.map_id']⟩

theorem SameSailings.set {b : BerthNo} {F : Sailing → Sailing} (hF : Settles 0 F)
    (h : u.sailings = s.sailings.set b (s.sailings[b].map F)) : SameSailings s u := fun b' => by
  rw [h, getElem_set_fin]
  split
  · rename_i hb
    subst hb
    exact ⟨F, hF, rfl⟩
  · exact ⟨_, Settles.refl, by rw [Option.map_id']⟩

theorem PlacesTrue.same (hs : PlacesTrue s) (hcount : ∀ b, countOf (rides b) u.gates = countOf (rides b) s.gates)
    (hsailings : SameSailings s u) (hceilings : u.ceilings = s.ceilings) : PlacesTrue u := fun b => by
  obtain ⟨F, hF, heq⟩ := hsailings b
  obtain ⟨hheld, hfits⟩ := hs b
  rw [hcount, heq, hceilings]
  refine ⟨hheld.trans ?_, fun sl' hsl' => ?_⟩
  · cases s.sailings[b] with
    | none => rfl
    | some sl => exact (hF.held sl).symm
  · obtain ⟨sl, hsl, rfl⟩ := Option.map_eq_some_iff.mp hsl'
    obtain ⟨hroom, hone, htops⟩ := hfits sl hsl
    have hboarded := hF.boarded sl
    unfold Sailing.fits
    rw [hF.capacity, hF.held]
    exact ⟨by omega, hone, htops⟩

theorem closingHolds_same (hs : ∀ b, ClosingHolds s b) (hsailings : SameSailings s u) (b : BerthNo) : ClosingHolds u b := by
  intro sl' hsl' hstate
  obtain ⟨F, hF, heq⟩ := hsailings b
  rw [heq] at hsl'
  obtain ⟨sl, hsl, rfl⟩ := Option.map_eq_some_iff.mp hsl'
  rw [hF.state] at hstate
  rw [hF.held]
  exact hs b sl hsl hstate

theorem not_suspended_same (hs : ∀ b : BerthNo, ∀ sl ∈ s.sailings[b], sl.state ≠ .suspended) (hsailings : SameSailings s u)
    (b : BerthNo) : ∀ sl ∈ u.sailings[b], sl.state ≠ .suspended := by
  intro sl' hsl'
  obtain ⟨F, hF, heq⟩ := hsailings b
  rw [heq] at hsl'
  obtain ⟨sl, hsl, rfl⟩ := Option.map_eq_some_iff.mp hsl'
  rw [hF.state]
  exact hs b sl hsl

/-! ### The engine idle -/

theorem engineIdle_equipped (h : s.equipped) : (engineIdle s).equipped := by
  obtain ⟨hclock, hceilings, hbank⟩ := h
  unfold engineIdle
  split
  · exact ⟨hclock, hceilings, hbank⟩
  · exact ⟨hclock, hceilings, rfl⟩

/-- Without a decision the law speaks of service, places and CLOSING sailings alone. -/
theorem placesKept_engineIdle (hservice : s.service = .inService)
    (hsuspended : ∀ b : BerthNo, ∀ sl ∈ s.sailings[b], sl.state ≠ .suspended) (hequipped : s.equipped)
    (hplaces : PlacesTrue s) (hclosing : ∀ b, ClosingHolds s b) : PlacesKept (engineIdle s) := by
  have hready := engineIdle_equipped hequipped
  obtain ⟨bank, waiting, out, heq⟩ := engineIdle_fields s
  rw [heq] at hready ⊢
  exact (placesKept_iff _).mpr ⟨serviceFits_inService hservice hsuspended hready, hplaces, hclosing, fun _ hd => nomatch hd⟩

end

/-! ### Verdicts (R15 to R17, R39) -/

section
variable {s : State} {d : Decision} {t : Transaction}

/-- A refusal gives no place. -/
theorem placesKept_refused (hs : PlacesKept s) (hfind : findTap s.gates[d.gate].list d.tap = some t)
    (hstate : t.state = .deciding) (r : Reason) : PlacesKept (engineIdle (s.giveRefusal d t r)) := by
  obtain ⟨hfits, hplaces, hclosing, -⟩ := (placesKept_iff s).mp hs
  have hin := hfits.inService (mem_of_findTap hfind)
  have hrefusedOne : Settles 0 fun sl : Sailing => { sl with refused := min 65535 (sl.refused + 1) } :=
    ⟨fun _ => rfl, fun _ => rfl, fun _ => rfl, fun _ => rfl, fun _ => le_rfl⟩
  have hsame : SameSailings s (s.giveRefusal d t r) := by
    rw [State.giveRefusal_eq]
    cases hfound : d.found with
    | none => exact SameSailings.of_eq rfl
    | some f =>
      by_cases hchange : d.change = .closed
      · exact SameSailings.of_eq (if_pos hchange)
      · exact SameSailings.set hrefusedOne (if_neg hchange)
  have hcount (b : BerthNo) : countOf (rides b) (s.giveRefusal d t r).gates = countOf (rides b) s.gates := by
    rw [State.giveRefusal_eq, tap_of_findTap hfind]
    exact countOf_rides_ended_other hfind (not_awaiting_of_deciding hstate) b
  refine placesKept_engineIdle ?_ ?_ ?_ (hplaces.same hcount hsame ?_) (closingHolds_same hclosing hsame)
  · rw [State.giveRefusal_eq]
    exact hin
  · exact not_suspended_same (fun b sl hsl => hfits.not_suspended hin hsl) hsame
  · rw [State.giveRefusal_eq]
    exact hfits.equipped hin
  · rw [State.giveRefusal_eq]
    rfl

/-- The places that an open takes: one is held at a CONFIRMED gate, one is boarded at a DIRECT gate, and none for crew. -/
theorem takePlace_open {f : SailingFound} (hfound : d.found = some f) {sl : Sailing} (hsl : s.sailings[f.berth] = some sl)
    (k : Counting) : ∃ sl' out, s.takePlace d k = { s with sailings := s.sailings.set f.berth (some sl'), outgoing := out } ∧
      sl'.state = sl.state ∧ sl'.capacity = sl.capacity ∧
      sl'.held = sl.held + (if d.crew = false ∧ k = .confirmed then 1 else 0) ∧
      sl'.boarded = sl.boarded + (if d.crew = false ∧ k = .direct then 1 else 0) := by
  rw [State.takePlace_eq s hfound]
  cases k <;> cases hcrew : d.crew
  · obtain ⟨armed, out, heq⟩ := placeTaken_fields hsl fun sl => { sl with held := sl.held + 1 }
    exact ⟨_, out, heq, rfl, rfl, rfl, rfl⟩
  · refine ⟨sl, s.outgoing, ?_, rfl, rfl, rfl, rfl⟩
    rw [← hsl, vector_set_self]
    rfl
  · obtain ⟨armed, out, heq⟩ := placeTaken_fields hsl fun sl =>
      { sl with boarded := sl.boarded + 1, revenue := min 4294967295 (sl.revenue + d.charged) }
    exact ⟨_, out, heq, rfl, rfl, rfl, rfl⟩
  · refine ⟨sl.crewPassed, s.outgoing, ?_, rfl, rfl, rfl, rfl⟩
    simp only [State.onSailing, hsl]
    rfl

/-- A decision that opens at stage 8 has found a BOARDING sailing with room (R39). -/
theorem DecisionKept.opens (hd : DecisionKept s d) (hstage : d.stage = .verdict) (hopen : d.finalRefusal = none) :
    ∃ f sl, d.found = some f ∧ s.gates[d.gate].config.berth = some f.berth ∧ s.sailings[f.berth] = some sl ∧
      sl.state = .boarding ∧ (d.crew = false → sl.boarded + sl.held < sl.capacity) := by
  obtain ⟨hgate, -, -, -, hfound, -, hstill⟩ := hd
  have hrefusal : d.refusal = none := by
    cases h : d.refusal with
    | none => rfl
    | some r => simp [Decision.finalRefusal, h] at hopen
  have hchange : d.change = .unchanged := by
    by_contra h
    simp [Decision.finalRefusal, hrefusal, h] at hopen
  obtain ⟨f, hf⟩ := Option.isSome_iff_exists.mp (hfound ⟨hrefusal, by rw [hstage]; rfl⟩)
  obtain ⟨sl, hsl, hboarding, -, hroom⟩ := hstill ⟨hrefusal, hchange⟩ f hf
  exact ⟨f, sl, hf, hgate f hf, hsl, hboarding, fun hcrew => hroom ⟨hcrew, by rw [hstage]; rfl⟩⟩

/-- The passengers at each berth after an open: one more where a place is held for this one. -/
theorem countOf_rides_opened (hs : Accounted s) (hfind : findTap s.gates[d.gate].list d.tap = some t)
    (hstate : t.state = .deciding) {b0 : BerthNo} (hberth : s.gates[d.gate].config.berth = some b0) (b : BerthNo) :
    countOf (rides b) (s.giveOpen d t).gates = countOf (rides b) s.gates +
      if b = b0 ∧ d.crew = false ∧ s.gates[d.gate].config.counting = .confirmed then 1 else 0 := by
  have hnot := not_awaiting_of_deciding hstate
  have htap := tap_of_findTap hfind
  cases hcounting : s.gates[d.gate].config.counting with
  | direct =>
    rw [State.giveOpen_direct s d t hcounting, htap]
    simp only [reduceCtorEq, and_false, if_false, Nat.add_zero]
    obtain ⟨sailings, out, htake, -⟩ := takePlace_fields s d .direct
    rw [htake]
    exact countOf_rides_ended_other hfind hnot b
  | confirmed =>
    have hchanged := countOf_changed (rides b) (hs.1 d.gate).1 hfind
      fun u => { u with state := .awaiting (awaitingOf s d (openOf d s.now)) }
    rw [rides_of_not_awaiting hnot, if_neg Bool.false_ne_true, Nat.add_zero, rides_of_awaiting rfl, hberth] at hchanged
    rw [State.giveOpen_confirmed s d t hcounting, htap]
    refine hchanged.trans (congrArg _ ?_)
    by_cases hb : b = b0
    · cases hcrew : d.crew <;> simp [hb, hcrew, awaitingOf]
    · simp [hb, Ne.symm hb]

/-- What an open makes of the part, but for gates and the like: the sailing found takes the passenger. -/
theorem giveOpen_fields (s : State) {d : Decision} (t : Transaction) {f : SailingFound} (hfound : d.found = some f)
    {sl : Sailing} (hsl : s.sailings[f.berth] = some sl) :
    ∃ sl', (s.giveOpen d t).sailings = s.sailings.set f.berth (some sl') ∧ sl'.state = sl.state ∧ sl'.capacity = sl.capacity ∧
      sl'.held = sl.held + (if d.crew = false ∧ s.gates[d.gate].config.counting = .confirmed then 1 else 0) ∧
      sl'.boarded = sl.boarded + (if d.crew = false ∧ s.gates[d.gate].config.counting = .direct then 1 else 0) ∧
      (s.giveOpen d t).service = s.service ∧ (s.giveOpen d t).ceilings = s.ceilings ∧ (s.giveOpen d t).clock = s.clock ∧
      (s.giveOpen d t).activeBank = s.activeBank := by
  cases hcounting : s.gates[d.gate].config.counting with
  | confirmed =>
    obtain ⟨sl', out, htake, hstate, hcapacity, hheld, hboarded⟩ := takePlace_open hfound hsl .confirmed
    rw [State.giveOpen_confirmed s d t hcounting, htake]
    exact ⟨sl', rfl, hstate, hcapacity, hheld, hboarded, rfl, rfl, rfl, rfl⟩
  | direct =>
    obtain ⟨sl', out, htake, hstate, hcapacity, hheld, hboarded⟩ := takePlace_open hfound hsl .direct
    rw [State.giveOpen_direct s d t hcounting, htake]
    exact ⟨sl', rfl, hstate, hcapacity, hheld, hboarded, rfl, rfl, rfl, rfl⟩

/-- An open takes a place there is room for, and its passenger is counted (R16, R17, R66). -/
theorem placesKept_opened (haccounted : Accounted s) (hs : PlacesKept s) (hengine : s.engine = some d)
    (hstage : d.stage = .verdict) (hfind : findTap s.gates[d.gate].list d.tap = some t) (hstate : t.state = .deciding)
    (hopen : d.finalRefusal = none) : PlacesKept (engineIdle (s.giveOpen d t)) := by
  obtain ⟨hfits, hplaces, hclosing, hdecision⟩ := (placesKept_iff s).mp hs
  have hin := hfits.inService (mem_of_findTap hfind)
  obtain ⟨f, sl, hfound, hberth, hsl, hboarding, hroom⟩ := (hdecision d hengine).opens hstage hopen
  obtain ⟨sl', hsailings, hstate', hcapacity, hheld', hboarded', hservice, hceilings, hclock, hbank⟩ :=
    giveOpen_fields s t hfound hsl
  have hcount := countOf_rides_opened haccounted hfind hstate hberth
  obtain ⟨hheld, hbounds⟩ := hplaces f.berth
  obtain ⟨hwithin, hone, htops⟩ := hbounds sl hsl
  rw [hsl] at hheld
  have hplaces' : PlacesTrue (s.giveOpen d t) := by
    refine hplaces.set hsailings hceilings (fun b hb => ?_) ?_ fun x hx => ?_
    · rw [hcount, if_neg fun h => hb h.1, Nat.add_zero]
    · rw [hcount, hheld]
      simp only [true_and]
      exact hheld'.symm
    · cases hx
      unfold Sailing.fits
      rw [hcapacity, hheld', hboarded']
      refine ⟨?_, hone, htops⟩
      cases hcrew : d.crew with
      | true => simpa using hwithin
      | false =>
        have hfree := hroom hcrew
        cases s.gates[d.gate].config.counting <;> simp <;> omega
  refine placesKept_engineIdle (hservice.trans hin) (fun b x hx => ?_) ?_ hplaces'
    (closingHolds_set hsailings hclosing fun x hx hc => ?_)
  · rw [hsailings, getElem_set_fin] at hx
    split at hx
    · cases hx
      rw [hstate', hboarding]
      decide
    · exact hfits.not_suspended hin hx
  · unfold State.equipped
    rw [hclock, hceilings, hbank]
    exact hfits.equipped hin
  · cases hx
    rw [hstate', hboarding] at hc
    cases hc

end

/-! ### Muster entry (R149 to R152) -/

/-- A berth's sailing after muster entry, but for the places it held: CLOSING ones close, BOARDING ones are SUSPENDED. -/
def mustered (o : Option Sailing) : Option Sailing :=
  o.bind fun sl => if sl.state = .closing then none else some { sl with state := .suspended }

theorem musterBerth_sailings_eq (s : State) (b : BerthNo) :
    (s.musterBerth b).sailings = s.sailings.set b (mustered s.sailings[b]) := by
  unfold State.musterBerth
  cases hsl : s.sailings[b] with
  | none =>
    change s.sailings = s.sailings.set b none
    rw [← hsl, vector_set_self]
  | some sl =>
    dsimp only
    split
    · rename_i hstate
      simp [mustered, hstate, State.setSailing]
    · rename_i hstate
      rw [State.closeSailing_eq_closed hsl]
      simp [mustered, hstate, closed]
    · rename_i hstate
      have hsame : mustered (some sl) = some sl := by
        simp only [mustered, Option.bind_some, hstate, reduceCtorEq, if_false]
        rw [← hstate]
      rw [hsame, ← hsl, vector_set_self]

theorem musterBerth_sailings (s : State) (b b' : BerthNo) :
    (s.musterBerth b).sailings[b'] = if b = b' then mustered s.sailings[b'] else s.sailings[b'] := by
  rw [musterBerth_sailings_eq, getElem_set_fin]
  split
  · rename_i hb
    rw [hb]
  · rfl

theorem mustered_mustered (o : Option Sailing) : mustered (mustered o) = mustered o := by
  cases o with
  | none => rfl
  | some sl => by_cases h : sl.state = .closing <;> simp [mustered, h]

theorem foldl_musterBerth_sailings (bs : List BerthNo) (s : State) (b : BerthNo) :
    (bs.foldl State.musterBerth s).sailings[b] = if b ∈ bs then mustered s.sailings[b] else s.sailings[b] := by
  induction bs generalizing s with
  | nil => rfl
  | cons b' bs ih =>
    rw [List.foldl_cons, ih, musterBerth_sailings]
    by_cases hb : b' = b
    · by_cases hmem : b ∈ bs <;> simp [hb, hmem, mustered_mustered]
    · simp [hb, Ne.symm hb]

/-- The engine idle, the reservations and places right, and what service requires there. -/
def IdlePlaced (s : State) : Prop := IdleAccounted s ∧ PlacesTrue s ∧ s.equipped

theorem idlePlaced_abandoned {s : State} (haccounted : Accounted s) (hplaces : PlacesTrue s) (hequipped : s.equipped) :
    IdlePlaced s.abandonDecision.applyActivation := by
  refine ⟨accounted_abandoned haccounted, ?_⟩
  have hready : s.abandonDecision.equipped ∧ PlacesTrue s.abandonDecision := by
    cases hengine : s.engine with
    | none =>
      rw [State.abandonDecision_none hengine]
      exact ⟨hequipped, hplaces⟩
    | some d =>
      obtain ⟨t, hfind, hstate⟩ := haccounted.deciding hengine
      rw [State.abandonDecision_eq hengine]
      exact ⟨hequipped, hplaces.ended hfind (not_awaiting_of_deciding hstate) rfl rfl rfl⟩
  obtain ⟨⟨hclock, hceilings, hbank⟩, hplaces'⟩ := hready
  rw [State.applyActivation_eq]
  refine ⟨hplaces', hclock, hceilings, ?_⟩
  dsimp only
  split
  · rfl
  · exact hbank

theorem IdlePlaced.musterTx {s : State} (hs : IdlePlaced s) {g : Gate} {t : Transaction} {rest : List Transaction}
    (hl : s.gates[g].list = t :: rest) : IdlePlaced (State.musterTx g s t) := by
  obtain ⟨hidle, hplaces, hequipped⟩ := hs
  refine ⟨hidle.musterTx hl, ?_⟩
  have hfind := findTap_head hl
  unfold State.musterTx
  split
  · exact ⟨hplaces.ended hfind (fun a h => by simp_all) rfl rfl rfl, hequipped⟩
  · rw [State.endNotBoarded_eq]
    exact ⟨hplaces.settled hfind ‹_› (settles_notBoarded _) rfl rfl rfl, hequipped⟩
  · exact ⟨hplaces, hequipped⟩

/-- Nothing in the lists, an idle engine, and the ceilings c. -/
def Emptied (c : Option (Vector Nat 4)) (s : State) : Prop :=
  s.engine = none ∧ (∀ g : Gate, s.gates[g].list = []) ∧ s.equipped ∧ s.ceilings = c

theorem Emptied.musterBerth {c : Option (Vector Nat 4)} (s : State) (b : BerthNo) (hs : Emptied c s) : Emptied c (s.musterBerth b) := by
  obtain ⟨hidle, hlists, hequipped, hceilings⟩ := hs
  unfold State.musterBerth
  cases hsl : s.sailings[b] with
  | none => exact ⟨hidle, hlists, hequipped, hceilings⟩
  | some sl =>
    dsimp only
    split
    · exact ⟨hidle, hlists, hequipped, hceilings⟩
    · rw [State.closeSailing_eq_closed hsl]
      refine ⟨?_, fun g => closed_list_nil (hlists g) b sl _, hequipped, hceilings⟩
      change s.engine.map _ = none
      rw [hidle]
      rfl
    · exact ⟨hidle, hlists, hequipped, hceilings⟩

/-- No list holds anything and no sailing boards or closes: the law of places in MUSTER. -/
theorem placesKept_musterEntry {s : State} (haccounted : Accounted s) (hplaces : PlacesTrue s) (hequipped : s.equipped) :
    PlacesKept s.musterEntry := by
  obtain ⟨s1, ⟨⟨-, hidle⟩, hplaces1, hequipped1⟩, hempty1, heq⟩ :=
    State.musterEntry_keeps (P := IdlePlaced) (idlePlaced_abandoned haccounted hplaces hequipped)
      (fun _ hs g => hs.1.no_deciding g) (fun _ _ _ _ hs _ hl _ => hs.musterTx hl)
  obtain ⟨hidle2, hempty2, hequipped2, hceilings2⟩ := foldl_keeps (P := Emptied s1.ceilings) Emptied.musterBerth
    (List.finRange 4) ⟨hidle, hempty1, hequipped1, rfl⟩
  have hsailings (b : BerthNo) : ((List.finRange 4).foldl State.musterBerth s1).sailings[b] = mustered s1.sailings[b] := by
    rw [foldl_musterBerth_sailings, if_pos (List.mem_finRange b)]
  rw [heq]
  generalize (List.finRange 4).foldl State.musterBerth s1 = s2 at *
  have hlists (g : Gate) : (modesSent { s2 with service := .muster }).gates[g].list = [] := by
    simp only [modesSent, getElem_map_fin]
    exact hempty2 g
  have hmustered (b : BerthNo) (sl : Sailing) (hsl : sl ∈ s2.sailings[b]) :
      ∃ sl1 ∈ s1.sailings[b], sl = { sl1 with state := .suspended } := by
    rw [hsailings] at hsl
    obtain ⟨sl1, hsl1, hif⟩ := Option.bind_eq_some_iff.mp hsl
    split at hif
    · cases hif
    · exact ⟨sl1, hsl1, (Option.some.inj hif).symm⟩
  have hheld (b : BerthNo) (sl1 : Sailing) (hsl1 : sl1 ∈ s1.sailings[b]) : sl1.held = 0 := by
    have hzero := (hplaces1 b).1
    rw [countOf_of_empty hempty1, hsl1] at hzero
    exact hzero.symm
  refine (placesKept_iff _).mpr ⟨(serviceFits_iff _).mpr ⟨fun _ => hlists, nofun, fun _ _ _ _ => rfl, fun _ => hequipped2⟩,
    fun b => ⟨?_, fun sl hsl => ?_⟩, fun b sl hsl hclosing => ?_, fun d hd => ?_⟩
  · rw [countOf_of_empty hlists]
    change 0 = heldOf s2.sailings[b]
    cases hsl : s2.sailings[b] with
    | none => rfl
    | some sl =>
      obtain ⟨sl1, hsl1, rfl⟩ := hmustered b sl hsl
      exact (hheld b sl1 hsl1).symm
  · obtain ⟨sl1, hsl1, rfl⟩ := hmustered b sl hsl
    change Sailing.fits _ s2.ceilings b
    rw [hceilings2]
    exact (hplaces1 b).2 sl1 hsl1
  · obtain ⟨sl1, -, rfl⟩ := hmustered b sl hsl
    cases hclosing
  · change d ∈ s2.engine at hd
    rw [hidle2] at hd
    cases hd

end Sys2Proof.Machine
end

section
/-! Every step keeps places, the service state and the decision in progress agreed (R31, R39, R63, R66, R67, R150, R157). -/
namespace Sys2Proof.Machine
open Sys2Proof.Claims

/-! ### The decision in progress, stage by stage -/

section
variable {s : State} {d d' : Decision}

/-- A refused decision knows its gate's berth at most. -/
theorem decisionKept_refuse (hgate : ∀ f ∈ d.found, s.gates[d.gate].config.berth = some f.berth) (r : Reason) :
    DecisionKept s (d.refuse r) :=
  ⟨hgate, (nomatch ·), fun _ => rfl, fun _ => rfl, fun h => (nomatch h.1), fun h => (nomatch h.1), fun h => (nomatch h.1)⟩

/-- Between stage 1 and stage 8 a decision bears no refusal and is not crew. -/
theorem DecisionKept.undecided (hd : DecisionKept s d) (hbefore : d.stage ≠ .verdict) : d.refusal = none ∧ d.crew = false := by
  obtain ⟨-, -, hrefused, hcrew, -⟩ := hd
  constructor
  · cases h : d.refusal with
    | none => rfl
    | some r => exact absurd (hrefused (by rw [h]; rfl)) hbefore
  · cases h : d.crew with
    | false => rfl
    | true => exact absurd (hcrew h) hbefore

/-- Past stage 5 the sailing found has room. -/
theorem DecisionKept.room (hd : DecisionKept s d) (hbefore : d.stage ≠ .verdict) (hpast : d.stage.afterCapacity = true)
    (hchange : d.change = .unchanged) {f : SailingFound} (hf : f ∈ d.found) {sl : Sailing} (hsl : sl ∈ s.sailings[f.berth]) :
    sl.boarded + sl.held < sl.capacity := by
  obtain ⟨hrefusal, hcrew⟩ := hd.undecided hbefore
  obtain ⟨-, -, -, -, -, -, hstill⟩ := hd
  obtain ⟨sl', hsl', -, -, hroom⟩ := hstill ⟨hrefusal, hchange⟩ f hf
  rw [Option.mem_unique hsl hsl']
  exact hroom ⟨hcrew, hpast⟩

/-- A decision goes on, with an occupancy once it is past stage 5. -/
theorem DecisionKept.advanced (hd : DecisionKept s d) (hbefore : d.stage ≠ .sailing ∧ d.stage ≠ .verdict)
    (hgate : d'.gate = d.gate) (hfound : d'.found = d.found) (hchange : d'.change = d.change) (hrefusal : d'.refusal = none)
    (hafter : d'.stage ≠ .sailing) (hcrew : d'.crew = true → d'.stage = .verdict)
    (hoccupancy : d'.crew = false → d'.stage.afterCapacity = true →
      d'.occupancy.isSome = true ∨ (d'.stage = .verdict ∧ d'.change ≠ .unchanged))
    (hroom : d'.crew = false → d'.stage.afterCapacity = true → d.change = .unchanged →
      ∀ f ∈ d.found, ∀ sl ∈ s.sailings[f.berth], sl.boarded + sl.held < sl.capacity) : DecisionKept s d' := by
  obtain ⟨hnone, -⟩ := hd.undecided hbefore.2
  obtain ⟨hberth, -, -, -, hsome, -, hstill⟩ := hd
  refine ⟨fun f hf => ?_, fun h => absurd h hafter, fun h => ?_, hcrew, fun _ => ?_, fun h => hoccupancy h.2.1 h.2.2,
    fun h f hf => ?_⟩
  · rw [hfound] at hf
    exact (congrArg (fun g : Gate => s.gates[g].config.berth) hgate).trans (hberth f hf)
  · rw [hrefusal] at h
    cases h
  · rw [hfound]
    exact hsome ⟨hnone, by simp [Stage.afterSailing, hbefore.1]⟩
  · rw [hfound] at hf
    have hunchanged : d.change = .unchanged := hchange ▸ h.2
    obtain ⟨sl, hsl, hboarding, hid, -⟩ := hstill ⟨hnone, hunchanged⟩ f hf
    exact ⟨sl, hsl, hboarding, hid, fun hpast => hroom hpast.1 hpast.2 hunchanged f hf sl hsl⟩

theorem DecisionKept.sailingStage (hd : DecisionKept s d) (hstage : d.stage = .sailing) : DecisionKept s (sailingStage s d) := by
  obtain ⟨-, hfirst, -⟩ := hd
  obtain ⟨hfound, hcrew, hrefusal⟩ := hfirst hstage
  have hnothing : ∀ f ∈ d.found, s.gates[d.gate].config.berth = some f.berth := by simp [hfound]
  unfold Machine.sailingStage
  cases hberth : s.gates[d.gate].config.berth with
  | none => exact decisionKept_refuse hnothing _
  | some b =>
    dsimp only
    cases hsl : s.sailings[b] with
    | none => exact decisionKept_refuse hnothing _
    | some sl =>
      have hown : ∀ f ∈ some (⟨b, sl.id, sl.line⟩ : SailingFound), s.gates[d.gate].config.berth = some f.berth := by
        rintro f ⟨⟩
        exact hberth
      dsimp only
      cases hstate : sl.state with
      | boarding =>
        refine ⟨hown, (nomatch ·), ?_, ?_, fun _ => rfl, fun h => (nomatch h.2.2), fun _ f hf => ?_⟩
        · simp [hrefusal]
        · simp [hcrew]
        · cases hf
          exact ⟨sl, hsl, hstate, rfl, fun h => (nomatch h.2)⟩
      | closing => exact decisionKept_refuse (d := { d with found := some ⟨b, sl.id, sl.line⟩ }) hown _
      | suspended => exact decisionKept_refuse hnothing _

/-- An occupancy read of a sailing that has not changed is the sailing's own. -/
theorem State.room_of_occupancy {o : Occupancy} (ho : s.occupancyOf d = some o) (hroom : o.occupied < o.capacity)
    {f : SailingFound} (hf : f ∈ d.found) {sl : Sailing} (hsl : sl ∈ s.sailings[f.berth]) :
    sl.boarded + sl.held < sl.capacity := by
  rw [Option.mem_def] at hf hsl
  unfold State.occupancyOf at ho
  split at ho
  · cases ho
  · rw [hf, Option.bind_some, hsl, Option.map_some] at ho
    cases ho
    exact hroom

theorem DecisionKept.fareStage (hd : DecisionKept s d) (hstage : d.stage = .fare) (bank : Bank) (band : BandEntry)
    (o : Occupancy) (line : LineCode) (kind : ProductKind) (overdraft : Nat) (c : CardData) :
    DecisionKept s (fareStage bank band o line kind overdraft d c) := by
  have hbefore : d.stage ≠ .sailing ∧ d.stage ≠ .verdict := by rw [hstage]; decide
  have hpast : d.stage.afterCapacity = true := by rw [hstage]; rfl
  obtain ⟨hrefusal, hcrew⟩ := hd.undecided hbefore.2
  have hoccupancy : d.occupancy.isSome = true := by
    obtain ⟨-, -, -, -, -, hroom, -⟩ := hd
    exact (hroom ⟨hrefusal, hcrew, hpast⟩).resolve_right fun h => hbefore.2 h.1
  have hgoes {d' : Decision} (hgate : d'.gate = d.gate) (hfound : d'.found = d.found) (hchange : d'.change = d.change)
      (hrefusal' : d'.refusal = d.refusal) (hverdict : d'.stage = .verdict) (hoccupancy' : d'.occupancy = d.occupancy) :
      DecisionKept s d' :=
    hd.advanced hbefore hgate hfound hchange (hrefusal'.trans hrefusal) (by rw [hverdict]; decide) (fun _ => hverdict)
      (fun _ _ => .inl (by rw [hoccupancy']; exact hoccupancy)) fun _ _ hchange f hf sl hsl => hd.room hbefore.2 hpast hchange hf hsl
  unfold Machine.fareStage
  cases kind with
  | storedValue =>
    dsimp only
    split
    · exact hgoes rfl rfl rfl rfl rfl rfl
    · exact decisionKept_refuse hd.1 _
  | periodPass => exact hgoes rfl rfl rfl rfl rfl rfl
  | cappedPass => exact hgoes rfl rfl rfl rfl rfl rfl

/-- Each stage leaves a well-kept decision well kept (R31 to R38). -/
theorem DecisionKept.staged (hd : DecisionKept s d) {c : CardData} (h : StageStep s d c d') : DecisionKept s d' := by
  have hgate := hd.1
  cases h with
  | sailing hstage => exact hd.sailingStage hstage
  | cardData hstage =>
    have hbefore : d.stage ≠ .sailing ∧ d.stage ≠ .verdict := by rw [hstage]; decide
    obtain ⟨hrefusal, hcrew⟩ := hd.undecided hbefore.2
    unfold cardDataStage
    split
    · exact hd.advanced hbefore rfl rfl rfl hrefusal nofun (by simp [hcrew]) (fun _ h => nomatch h) fun _ h => nomatch h
    · exact decisionKept_refuse hgate _
  | search hstage =>
    have hbefore : d.stage ≠ .sailing ∧ d.stage ≠ .verdict := by rw [hstage]; decide
    obtain ⟨hrefusal, hcrew⟩ := hd.undecided hbefore.2
    exact hd.advanced hbefore rfl rfl rfl hrefusal nofun (by simp [hcrew]) (fun _ h => nomatch h) fun _ h => nomatch h
  | product hstage =>
    have hbefore : d.stage ≠ .sailing ∧ d.stage ≠ .verdict := by rw [hstage]; decide
    obtain ⟨hrefusal, hcrew⟩ := hd.undecided hbefore.2
    unfold productStage
    split
    · exact decisionKept_refuse hgate _
    · dsimp only
      split
      · exact decisionKept_refuse (d := { d with kind := _, slot := _ }) hgate _
      · exact hd.advanced hbefore rfl rfl rfl hrefusal nofun (by simp [hcrew]) (fun _ h => nomatch h) fun _ h => nomatch h
  | recheck hstage hchange =>
    have hbefore : d.stage ≠ .sailing ∧ d.stage ≠ .verdict := by rw [hstage]; decide
    obtain ⟨hrefusal, -⟩ := hd.undecided hbefore.2
    have hleft : d.change ≠ .unchanged := by rw [hchange]; decide
    exact hd.advanced hbefore rfl rfl rfl hrefusal nofun (fun _ => rfl) (fun _ _ => .inr ⟨rfl, hleft⟩)
      fun _ _ h => absurd h hleft
  | capacity hstage hchange o ho =>
    have hbefore : d.stage ≠ .sailing ∧ d.stage ≠ .verdict := by rw [hstage]; decide
    obtain ⟨hrefusal, hcrew⟩ := hd.undecided hbefore.2
    unfold capacityStage
    split
    · rename_i hroom
      exact hd.advanced hbefore rfl rfl rfl hrefusal nofun (by simp [hcrew]) (fun _ _ => .inl rfl)
        fun _ _ _ f hf sl hsl => State.room_of_occupancy ho hroom hf hsl
    · exact decisionKept_refuse hgate _
  | lost hstage hchange ho o =>
    have hbefore : d.stage ≠ .sailing ∧ d.stage ≠ .verdict := by rw [hstage]; decide
    obtain ⟨hrefusal, hcrew⟩ := hd.undecided hbefore.2
    unfold capacityStage
    split
    · refine hd.advanced hbefore rfl rfl rfl hrefusal nofun (by simp [hcrew]) (fun _ _ => .inl rfl)
        fun _ _ hunchanged f hf sl hsl => ?_
      rw [Option.mem_def] at hf
      have hnone : s.sailings[f.berth] = none := by simpa [State.occupancyOf, hunchanged, hf] using ho
      rw [hnone] at hsl
      cases hsl
    · exact decisionKept_refuse hgate _
  | productKind hstage =>
    have hbefore : d.stage ≠ .sailing ∧ d.stage ≠ .verdict := by rw [hstage]; decide
    have hpast : d.stage.afterCapacity = true := by rw [hstage]; rfl
    obtain ⟨hrefusal, hcrew⟩ := hd.undecided hbefore.2
    unfold productKindStage
    split
    · exact decisionKept_refuse hgate _
    · refine hd.advanced hbefore rfl rfl rfl hrefusal nofun (by simp [hcrew]) (fun _ _ => .inl ?_)
        fun _ _ hchange f hf sl hsl => hd.room hbefore.2 hpast hchange hf hsl
      obtain ⟨-, -, -, -, -, hoccupancy, -⟩ := hd
      exact (hoccupancy ⟨hrefusal, hcrew, hpast⟩).resolve_right fun h => hbefore.2 h.1
  | fare hstage => exact hd.fareStage hstage _ _ _ _ _ _ _

/-- The end of a search leaves a well-kept decision well kept (R34). -/
theorem DecisionKept.searched (hd : DecisionKept s d) (hstage : d.stage = .searching) (h : SearchEnd d d') :
    DecisionKept s d' := by
  have hbefore : d.stage ≠ .sailing ∧ d.stage ≠ .verdict := by rw [hstage]; decide
  obtain ⟨hrefusal, hcrew⟩ := hd.undecided hbefore.2
  have hgoes {d' : Decision} (hgate : d'.gate = d.gate) (hfound : d'.found = d.found) (hchange : d'.change = d.change)
      (hrefusal' : d'.refusal = d.refusal) (hcrew' : d'.crew = d.crew) (hproduct : d'.stage = .product) : DecisionKept s d' :=
    hd.advanced hbefore hgate hfound hchange (hrefusal'.trans hrefusal) (by rw [hproduct]; decide)
      (by rw [hcrew', hcrew]; exact nofun) (by rw [hproduct]; exact fun _ h => nomatch h)
      (by rw [hproduct]; exact fun _ h => nomatch h)
  cases h with
  | matched i a =>
    cases a with
    | refuse => exact decisionKept_refuse (d := { d with filterIndex := some i }) hd.1 _
    | priority =>
      exact hd.advanced hbefore rfl rfl rfl hrefusal nofun (fun _ => rfl) (fun h => nomatch h) fun h => nomatch h
    | inspect => exact hgoes rfl rfl rfl rfl rfl rfl
    | slot k => exact hgoes rfl rfl rfl rfl rfl rfl
    | accept => exact hgoes rfl rfl rfl rfl rfl rfl
  | unmatched a =>
    cases a with
    | accept => exact hgoes rfl rfl rfl rfl rfl rfl
    | refuse => exact decisionKept_refuse hd.1 _

end
end Sys2Proof.Machine
end

section
/-! Every step keeps places, the service state and the decision in progress agreed (R31, R39, R63, R66, R67, R150, R157): the
moves. -/
namespace Sys2Proof.Machine
open Sys2Proof.Claims

/-- The law of places with the laws it rests on. -/
def Placed (s : State) : Prop := Accounted s ∧ ValuesInRange s ∧ PlacesKept s

section
variable {s u : State}

/-- Changes that the law of places does not look at. -/
theorem PlacesKept.same (hs : PlacesKept s)
    (hgates : ∀ g : Gate, u.gates[g].list = s.gates[g].list ∧ u.gates[g].config = s.gates[g].config)
    (hsailings : u.sailings = s.sailings) (hceilings : u.ceilings = s.ceilings) (hservice : u.service = s.service)
    (hequipped : s.equipped → u.equipped) (hengine : u.engine = s.engine) : PlacesKept u := by
  obtain ⟨hfits, hplaces, hclosing, hdecision⟩ := (placesKept_iff s).mp hs
  refine (placesKept_iff u).mpr ⟨hfits.less hservice (fun _ g h => (hgates g).1.trans h) (fun b sl hsl => ?_) hequipped,
    hplaces.congr (fun b => countOf_congr fun g => by rw [(hgates g).1, (hgates g).2]) hsailings hceilings,
    closingHolds_same hclosing (SameSailings.of_eq hsailings), fun d hd => ?_⟩
  · rw [hsailings] at hsl
    exact ⟨sl, hsl, fun h => h⟩
  · rw [hengine] at hd
    refine (hdecision d hd).transfer (congrArg GateSettings.berth (hgates d.gate).2) fun _ f _ h => h.transfer fun sl hsl => ?_
    rw [hsailings]
    exact ⟨sl, hsl, rfl, rfl, fun h => h⟩

/-- Lists and sailings emptied, as the service state stands or in CONFIG (R165). -/
theorem placesKept_emptied (hlists : ∀ g : Gate, u.gates[g].list = []) (hsailings : ∀ b : BerthNo, u.sailings[b] = none)
    (hengine : u.engine = none) (hequipped : u.service ≠ .config → u.equipped) : PlacesKept u := by
  have hnone (b : BerthNo) (sl : Sailing) (hsl : sl ∈ u.sailings[b]) : False := by
    rw [hsailings b] at hsl
    cases hsl
  refine (placesKept_iff u).mpr ⟨(serviceFits_iff u).mpr ⟨fun _ => hlists, fun _ => hsailings,
    fun b sl hsl => (hnone b sl hsl).elim, hequipped⟩, fun b => ⟨?_, fun sl hsl => (hnone b sl hsl).elim⟩,
    fun b sl hsl => (hnone b sl hsl).elim, fun d hd => ?_⟩
  · rw [countOf_of_empty hlists, hsailings b]
    rfl
  · rw [hengine] at hd
    cases hd

/-- The decision in progress replaced by one that is well kept. -/
theorem PlacesKept.redecided (hs : PlacesKept s) {d : Decision} (hd : DecisionKept s d) (n : Nat) :
    PlacesKept { s with engine := some d, freeCount := n } := by
  obtain ⟨hfits, hberths, -⟩ := hs
  refine ⟨hfits, hberths, fun d' hd' => ?_⟩
  cases hd'
  exact hd

theorem PlacesKept.joined (hs : PlacesKept s) {g : Gate} {t : Transaction} (hin : s.service = .inService)
    (hpending : t.isPending = true) : PlacesKept (s.setGate g { s.gates[g] with list := s.gates[g].list ++ [t] }) := by
  obtain ⟨hfits, hplaces, hclosing, hdecision⟩ := (placesKept_iff s).mp hs
  refine (placesKept_iff _).mpr ⟨serviceFits_inService hin (fun b sl hsl => hfits.not_suspended hin hsl) (hfits.equipped hin),
    hplaces.congr (fun b => ?_) rfl rfl, hclosing, fun d hd => (hdecision d hd).transfer ?_ fun _ _ _ h => h⟩
  · refine (countOf_joined (rides b) s.gates g t).trans ?_
    rw [rides_of_not_awaiting (not_awaiting_of_pending hpending), if_neg Bool.false_ne_true, Nat.add_zero]
  · simp only [State.setGate, getElem_set_fin]
    split
    · rename_i hg
      subst hg
      rfl
    · rfl

theorem PlacesKept.endedPending (hs : PlacesKept s) {g : Gate} {tap : TapNumber} {t : Transaction}
    (hfind : findTap s.gates[g].list tap = some t) (hpending : t.isPending = true) : PlacesKept (ended s g tap) := by
  obtain ⟨hfits, hplaces, hclosing, hdecision⟩ := (placesKept_iff s).mp hs
  have hin := hfits.inService (mem_of_findTap hfind)
  exact (placesKept_iff _).mpr ⟨serviceFits_inService hin (fun b sl hsl => hfits.not_suspended hin hsl) (hfits.equipped hin),
    hplaces.ended hfind (not_awaiting_of_pending hpending) rfl rfl rfl, hclosing, fun d hd =>
      (hdecision d hd).transfer (congrArg GateSettings.berth (ended_config rfl d.gate)) fun _ _ _ h => h⟩

/-- A gate is configured, its berth while it holds nothing (R3). -/
theorem PlacesKept.configured (haccounted : Accounted s) (hs : PlacesKept s) {g : Gate} {k : GateContext}
    (hk : s.gates[g].state = .active ∧ k = s.gates[g].disable ∨ s.gates[g].state = .disabled ∧ ∃ x, k = s.gates[g].configure x) :
    PlacesKept (s.setGate g k) := by
  obtain ⟨hfits, hplaces, hclosing, hdecision⟩ := (placesKept_iff s).mp hs
  obtain ⟨hlist, -⟩ := (accounted_iff_agreed.mp haccounted).configured hk
  have hsame : s.gates[g].list = [] ∨ k.config.berth = s.gates[g].config.berth := by
    rcases hk with ⟨-, rfl⟩ | ⟨hstate, -⟩
    · exact .inr rfl
    · exact .inl ((haccounted.1 g).2.2.2 hstate)
  refine (placesKept_iff _).mpr ⟨hfits.less rfl (fun _ g' h => ?_) (fun b sl hsl => ⟨sl, hsl, fun h => h⟩) (fun h => h),
    hplaces.congr (fun b => countOf_congr fun g' => ?_) rfl rfl, hclosing, fun d hd => (hdecision d hd).transfer ?_ fun _ _ _ h => h⟩
  · simp only [State.setGate, getElem_set_fin]
    split
    · rename_i hg
      subst hg
      exact hlist.trans h
    · exact h
  · simp only [State.setGate, getElem_set_fin]
    split
    · rename_i hg
      subst hg
      rcases hsame with hempty | hberth
      · rw [hlist, hempty]
        rfl
      · rw [hlist]
        refine List.countP_congr fun t _ => ?_
        simp only [rides, hberth]
    · rfl
  · obtain ⟨t, hfind, -⟩ := haccounted.deciding hd
    simp only [State.setGate, getElem_set_fin]
    split
    · rename_i hg
      subst hg
      refine hsame.resolve_left fun hempty => ?_
      have hmem := mem_of_findTap hfind
      rw [hempty] at hmem
      cases hmem
    · rfl

/-- A PENDING transaction is granted: nothing is found yet, and no place is taken (R31). -/
theorem PlacesKept.granted (haccounted : Accounted s) (hs : PlacesKept s) {g : Gate} {t : Transaction}
    (heligible : Eligible s g t) : PlacesKept (s.grantTo g t) := by
  obtain ⟨hmem, hpending, -, hin, -⟩ := heligible
  obtain ⟨hfits, hplaces, hclosing, -⟩ := (placesKept_iff s).mp hs
  have hfind := findTap_of_mem (haccounted.1 g).1 hmem
  rw [State.grantTo, State.reserveSlot_eq_reserved]
  obtain ⟨armed, out, heq⟩ := reserved_fields
    { s.updateTx g t.tap Transaction.granted with lastGranted := g, engine := some (newDecision s g t.tap) }
  rw [heq]
  refine (placesKept_iff _).mpr ⟨serviceFits_inService hin (fun b sl hsl => hfits.not_suspended hin hsl) (hfits.equipped hin),
    hplaces.congr (fun b => ?_) rfl rfl, hclosing, fun d hd => ?_⟩
  · have hcount := countOf_changed (rides b) (haccounted.1 g).1 hfind Transaction.granted
    rw [rides_of_not_awaiting (not_awaiting_of_pending hpending),
      rides_of_not_awaiting (not_awaiting_of_deciding (t := t.granted) rfl), if_neg Bool.false_ne_true, Nat.add_zero,
      Nat.add_zero] at hcount
    exact hcount
  · cases hd
    exact ⟨nofun, fun _ => ⟨rfl, rfl, rfl⟩, nofun, nofun, nofun, nofun, fun _ _ h => nomatch h⟩

theorem PlacesKept.moded (hs : PlacesKept s) (g : Gate) : PlacesKept (s.refreshMode g) := by
  rw [State.refreshMode_eq]
  refine hs.same (fun g' => ?_) rfl rfl rfl (fun h => h) rfl
  rw [getElem_set_fin]
  split
  · rename_i hg
    subst hg
    exact ⟨rfl, rfl⟩
  · exact ⟨rfl, rfl⟩

theorem modesSent_list (h : ∀ g : Gate, s.gates[g].list = []) (sv : ServiceState) (g : Gate) :
    (modesSent { s with service := sv }).gates[g].list = [] := by
  simp only [modesSent, getElem_map_fin]
  exact h g

/-- No transaction, no decision (R27). -/
theorem Accounted.idle_of_empty (hs : Accounted s) (h : ∀ g : Gate, s.gates[g].list = []) : s.engine = none := by
  cases hengine : s.engine with
  | none => rfl
  | some d =>
    obtain ⟨t, hfind, -⟩ := hs.deciding hengine
    have hmem := mem_of_findTap hfind
    rw [h d.gate] at hmem
    cases hmem

theorem State.lists_empty_of_holdingGates (h : s.holdingGates = 0) (g : Gate) : s.gates[g].list = [] := by
  rw [State.holdingGates, List.length_eq_zero_iff, List.filter_eq_nil_iff] at h
  simpa using h s.gates[g] (by simp)

theorem State.sailings_none_of_openBerths (h : s.openBerths = 0) (b : BerthNo) : s.sailings[b] = none := by
  rw [State.openBerths, List.length_eq_zero_iff, List.filter_eq_nil_iff] at h
  simpa using h s.sailings[b] (by simp)

/-- A sailing opens with no place taken, within the ceiling (R63, R65). -/
theorem PlacesKept.sailingOpened (hs : PlacesKept s) (hvalues : ValuesInRange s) (hin : s.service = .inService) {b : BerthNo}
    (hclosed : s.sailings[b] = none) {given : Nat} (hgiven : 1 ≤ given) {id : SailingId} {line : LineCode} {now : ServiceTime} :
    PlacesKept ((Claims.reserved s).setSailing b (some (openedSailing id line (clampCapacity s.ceilings b given) now))) := by
  obtain ⟨hfits, hplaces, hclosing, hdecision⟩ := (placesKept_iff s).mp hs
  obtain ⟨armed, out, heq⟩ := reserved_fields s
  have hcapacity : 1 ≤ clampCapacity s.ceilings b given ∧ ∀ tops ∈ s.ceilings, clampCapacity s.ceilings b given ≤ tops[b] := by
    unfold clampCapacity
    split
    · rename_i tops htops
      rw [htops]
      refine ⟨le_min hgiven (hvalues.2.2.1 tops htops b).1, fun _ h => ?_⟩
      cases h
      exact min_le_right _ _
    · rename_i hunset
      rw [hunset]
      exact ⟨hgiven, fun _ h => nomatch h⟩
  rw [heq]
  refine (placesKept_iff _).mpr ⟨serviceFits_inService hin (fun b' sl hsl => ?_) (hfits.equipped hin),
    hplaces.set rfl rfl (fun _ _ => rfl) ?_ fun sl hsl => ?_, closingHolds_set (s := s) rfl hclosing fun sl hsl h => ?_,
    fun d hd => (hdecision d hd).transfer rfl fun _ f _ h => h.transfer fun sl hsl => ?_⟩
  · simp only [State.setSailing, getElem_set_fin] at hsl
    split at hsl
    · cases hsl
      exact nofun
    · exact hfits.not_suspended hin hsl
  · have hheld := (hplaces b).1
    rw [hclosed] at hheld
    exact hheld
  · cases hsl
    exact ⟨Nat.zero_le _, hcapacity.1, hcapacity.2⟩
  · cases hsl
    cases h
  · have hne : b ≠ f.berth := fun hb => by
      subst hb
      rw [hclosed] at hsl
      cases hsl
    refine ⟨sl, ?_, rfl, rfl, fun h => h⟩
    simp only [State.setSailing, getElem_set_fin_ne _ hne]
    exact hsl

/-- A sailing with held places becomes CLOSING, and a decision that found it learns of it (R73, R31). -/
theorem PlacesKept.sailingLeaves (hs : PlacesKept s) {b : BerthNo} {sl : Sailing} (hsl : s.sailings[b] = some sl)
    (hheld : 0 < sl.held) : PlacesKept ((s.setSailing b (some { sl with state := .closing })).noteChange b .left) := by
  obtain ⟨hfits, hplaces, hclosing, hdecision⟩ := (placesKept_iff s).mp hs
  rw [State.noteChange_eq]
  refine (placesKept_iff _).mpr ⟨hfits.less rfl (fun _ _ h => h) (fun b' sl' hsl' => ?_) (fun h => h),
    hplaces.set rfl rfl (fun _ _ => rfl) ?_ fun sl' hsl' => ?_, closingHolds_set (s := s) rfl hclosing fun sl' hsl' _ => ?_,
    fun d' hd' => ?_⟩
  · simp only [State.setSailing, getElem_set_fin] at hsl'
    split at hsl'
    · cases hsl'
      rename_i hb
      subst hb
      exact ⟨sl, hsl, nofun⟩
    · exact ⟨sl', hsl', fun h => h⟩
  · have hcount := (hplaces b).1
    rw [hsl] at hcount
    exact hcount
  · cases hsl'
    exact (hplaces b).2 sl hsl
  · cases hsl'
    exact hheld
  · obtain ⟨d, hd, rfl⟩ := Option.map_eq_some_iff.mp hd'
    split
    · refine DecisionKept.changed (k := .left) (hdecision d hd) ?_ (by decide)
      rfl
    · rename_i hother
      refine (hdecision d hd).transfer rfl fun hunchanged f hf h => h.transfer fun sl' hsl' => ?_
      have hne : b ≠ f.berth := fun hb => hother ⟨by rw [hf, hb]; rfl, by rw [hunchanged]; decide⟩
      refine ⟨sl', ?_, rfl, rfl, fun h => h⟩
      simp only [State.setSailing, getElem_set_fin_ne _ hne]
      exact hsl'

theorem exists_of_mem_resumed {v : Vector (Option Sailing) 4} {b : BerthNo} {sl : Sailing}
    (h : sl ∈ (v.map fun o => o.map Sailing.resumed)[b]) : ∃ sl', v[b] = some sl' ∧ sl'.resumed = sl := by
  rw [getElem_map_fin] at h
  exact Option.map_eq_some_iff.mp h

/-- Muster exit: SUSPENDED sailings board again, and no transaction stands (R153 to R155). -/
theorem PlacesKept.resumed (hs : PlacesKept s) (haccounted : Accounted s) (hmuster : s.service = .muster) :
    PlacesKept s.musterExit := by
  obtain ⟨hfits, hplaces, hclosing, -⟩ := (placesKept_iff s).mp hs
  obtain ⟨hlists, -, -, hready⟩ := (serviceFits_iff s).mp hfits
  have hempty := hlists (by rw [hmuster]; decide)
  have hequipped := hready (by rw [hmuster]; decide)
  have hidle := haccounted.idle_of_empty hempty
  have hnone := modesSent_list (s := { s with sailings := s.sailings.map fun o => o.map Sailing.resumed }) hempty .inService
  rw [State.musterExit, State.refreshModes_eq]
  refine (placesKept_iff _).mpr ⟨serviceFits_inService rfl (fun b sl hsl => ?_) hequipped, fun b => ⟨?_, fun sl hsl => ?_⟩,
    fun b sl hsl hstate => ?_, fun d hd => ?_⟩
  · obtain ⟨sl', -, rfl⟩ := exists_of_mem_resumed hsl
    unfold Sailing.resumed
    split
    · exact nofun
    · assumption
  · have hheld := (hplaces b).1
    rw [countOf_of_empty hempty] at hheld
    rw [countOf_of_empty hnone, hheld]
    change _ = heldOf (s.sailings.map fun o => o.map Sailing.resumed)[b]
    rw [getElem_map_fin]
    cases s.sailings[b] with
    | none => rfl
    | some sl =>
      change sl.held = sl.resumed.held
      unfold Sailing.resumed
      split <;> rfl
  · obtain ⟨sl', hsl', rfl⟩ := exists_of_mem_resumed hsl
    have hbounds := (hplaces b).2 sl' hsl'
    unfold Sailing.resumed
    split
    · exact hbounds
    · exact hbounds
  · obtain ⟨sl', hsl', rfl⟩ := exists_of_mem_resumed hsl
    unfold Sailing.resumed at hstate ⊢
    split at hstate
    · cases hstate
    · rename_i hother
      rw [if_neg hother]
      exact hclosing b sl' hsl' hstate
  · change d ∈ s.engine at hd
    rw [hidle] at hd
    cases hd

end

theorem keeps_placed (c : Instr) : Keeps c Placed where
  quiet _ _ _ _ _ _ _ _ _ _ _ _ _ _ _ _ hs := hs
  taken _ _ _ hs _ := hs
  produced _ _ hs _ := hs
  arrived _ _ hs _ := hs
  sent _ _ _ hs _ := hs
  counted s g bad strays hs hbad hstrays := by
    refine ⟨(keeps_accounted c).counted s g bad strays hs.1 hbad hstrays,
      (keepsParts_valuesInRange c).counted s g bad strays hs.2.1 hbad hstrays,
      hs.2.2.same (fun g' => ?_) rfl rfl rfl (fun h => h) rfl⟩
    simp only [State.setGate, getElem_set_fin]
    split
    · rename_i hg
      subst hg
      exact ⟨rfl, rfl⟩
    · exact ⟨rfl, rfl⟩
  tapped s g t hs hin hactive hpending hnew hroom :=
    ⟨(keeps_accounted c).tapped s g t hs.1 hin hactive hpending hnew hroom,
      (keepsParts_valuesInRange c).keeps.tapped s g t hs.2.1 hin hactive hpending hnew hroom, hs.2.2.joined hin hpending⟩
  retried s g tap t hs hfind hpending :=
    ⟨accounted_ended_pending hs.1 hfind hpending, (keepsParts_valuesInRange c).ended s g tap hs.2.1,
      hs.2.2.endedPending hfind hpending⟩
  passed s g tap t a now hs hfind ht := by
    have hown := hfind
    rw [← tap_of_findTap hfind] at hown
    exact ⟨(keeps_accounted c).passed s g tap t a now hs.1 hfind ht,
      (keepsParts_valuesInRange c).keeps.passed s g tap t a now hs.2.1 hfind ht,
      (PlacesKept.settled (u := boarded s g t a now) hs.2.2 hown ht (settles_boarded a) rfl rfl rfl rfl (fun h => h) rfl).closedIfEmpty now⟩
  turned s g tap t a kind now hs hfind ht := by
    have hown := hfind
    rw [← tap_of_findTap hfind] at hown
    exact ⟨(keeps_accounted c).turned s g tap t a kind now hs.1 hfind ht,
      (keepsParts_valuesInRange c).keeps.turned s g tap t a kind now hs.2.1 hfind ht,
      (PlacesKept.settled (u := notBoarded s g t a kind now) hs.2.2 hown ht (settles_notBoarded a) rfl rfl rfl rfl (fun h => h) rfl).closedIfEmpty now⟩
  configured s g k hs hk :=
    ⟨(keeps_accounted c).configured s g k hs.1 hk, (keepsParts_valuesInRange c).configured s g k hs.2.1 hk,
      (hs.2.2.configured hs.1 hk).moded g⟩
  granted s g t hs heligible :=
    ⟨(keeps_accounted c).granted s g t hs.1 heligible, (keepsParts_valuesInRange c).keeps.granted s g t hs.2.1 heligible,
      hs.2.2.granted hs.1 heligible⟩
  staged s d t d' n hs hengine hfind hstep :=
    ⟨(keeps_accounted c).staged s d t d' n hs.1 hengine hfind hstep,
      (keepsParts_valuesInRange c).keeps.staged s d t d' n hs.2.1 hengine hfind hstep,
      hs.2.2.redecided ((hs.2.2.2.2 d hengine).staged hstep) n⟩
  searched s d t d' lp out fs hs hengine hfind hstage hend hroom :=
    ⟨(keeps_accounted c).searched s d t d' lp out fs hs.1 hengine hfind hstage hend hroom,
      (keepsParts_valuesInRange c).keeps.searched s d t d' lp out fs hs.2.1 hengine hfind hstage hend hroom,
      hs.2.2.redecided ((hs.2.2.2.2 d hengine).searched hstage hend) s.freeCount⟩
  refused s d t r hs hdeciding hfinal := by
    refine ⟨(keeps_accounted c).refused s d t r hs.1 hdeciding hfinal,
      (keepsParts_valuesInRange c).keeps.refused s d t r hs.2.1 hdeciding hfinal, ?_⟩
    obtain ⟨-, hengine, -, hfind⟩ := hdeciding
    obtain ⟨u, hu, hstate⟩ := hs.1.deciding hengine
    obtain rfl : t = u := Option.some.inj (hfind.symm.trans hu)
    exact placesKept_refused hs.2.2 hu hstate r
  opened s d t hs hdeciding hfinal := by
    refine ⟨(keeps_accounted c).opened s d t hs.1 hdeciding hfinal,
      (keepsParts_valuesInRange c).keeps.opened s d t hs.2.1 hdeciding hfinal, ?_⟩
    obtain ⟨-, hengine, hstage, hfind⟩ := hdeciding
    obtain ⟨u, hu, hstate⟩ := hs.1.deciding hengine
    obtain rfl : t = u := Option.some.inj (hfind.symm.trans hu)
    exact placesKept_opened hs.1 hs.2.2 hengine hstage hu hstate hfinal
  writeWaits _ _ hs _ _ := hs
  loaded s n _ _ _ hs _ _ := by cases n <;> exact hs
  cleared s n _ hs _ := by cases n <;> exact hs
  activated s n hs _ := ⟨hs.1, hs.2.1, hs.2.2.same (fun _ => ⟨rfl, rfl⟩) rfl rfl rfl (fun h => ⟨h.1, h.2.1, rfl⟩) rfl⟩
  activationWaits _ _ hs _ _ _ := hs
  slotLoaded _ _ _ _ hs _ _ _ := hs
  slotCleared _ _ hs _ := hs
  sailingOpened s b id line given now hs hin hclosed hgiven hroom := by
    refine ⟨(keeps_accounted c).sailingOpened s b id line given now hs.1 hin hclosed hgiven hroom,
      (keepsParts_valuesInRange c).keeps.sailingOpened s b id line given now hs.2.1 hin hclosed hgiven hroom, ?_⟩
    exact hs.2.2.sailingOpened hs.2.1 hin hclosed hgiven
  sailingClosed s b sl now hs hsl hempty :=
    ⟨accounted_closed hs.1 hsl now, (keepsParts_valuesInRange c).closed hs.2.1 b sl now,
      placesKept_closed hs.2.2 hsl (hempty.imp_right And.right) now⟩
  sailingLeaves s b sl hs hsl hboarding hheld := by
    refine ⟨(keeps_accounted c).sailingLeaves s b sl hs.1 hsl hboarding hheld,
      (keepsParts_valuesInRange c).keeps.sailingLeaves s b sl hs.2.1 hsl hboarding hheld, ?_⟩
    exact hs.2.2.sailingLeaves hsl hheld
  timeSet s t slots hs hrange hslots :=
    ⟨hs.1, (keepsParts_valuesInRange c).timeSet s t hs.2.1 hrange,
      hs.2.2.same (fun _ => ⟨rfl, rfl⟩) rfl rfl rfl (fun h => ⟨rfl, h.2⟩) rfl⟩
  secondPassed s t slots hs hclock hslots :=
    ⟨hs.1, (keepsParts_valuesInRange c).secondPassed s t hs.2.1 hclock,
      hs.2.2.same (fun _ => ⟨rfl, rfl⟩) rfl rfl rfl (fun h => ⟨rfl, h.2⟩) rfl⟩
  limited s tops hc hs hconfig hunset hrange := by
    refine ⟨hs.1, (keepsParts_valuesInRange c).limited s tops hc hs.2.1 hrange, ?_⟩
    have hnone := ((serviceFits_iff s).mp hs.2.2.1).2.1 hconfig
    obtain ⟨hfits, hplaces, hclosing, hdecision⟩ := (placesKept_iff s).mp hs.2.2
    refine (placesKept_iff _).mpr ⟨hfits.less rfl (fun _ _ h => h) (fun b sl hsl => ⟨sl, hsl, fun h => h⟩)
      (fun h => ⟨h.1, rfl, h.2.2⟩), fun b => ⟨(hplaces b).1, fun sl hsl => ?_⟩, hclosing, hdecision⟩
    rw [hnone b] at hsl
    cases hsl
  adjusted s p hs hrange := ⟨hs.1, (keepsParts_valuesInRange c).adjusted s p hs.2.1 hrange, hs.2.2⟩
  acked s i hs := ⟨(keeps_accounted c).acked s i hs.1, hs.2⟩
  started s hs hconfig hclock hceilings hbank := by
    refine ⟨accounted_modesSent hs.1 _, (keepsParts_valuesInRange c).served s _ hs.2.1, ?_⟩
    obtain ⟨hlists, hnone, -⟩ := (serviceFits_iff s).mp hs.2.2.1
    have hempty := hlists (by rw [hconfig]; decide)
    exact placesKept_emptied (modesSent_list hempty .inService) (hnone hconfig) (hs.1.idle_of_empty hempty)
      fun _ => ⟨hclock, hceilings, hbank⟩
  stopped s hs hberths hgates := by
    refine ⟨accounted_modesSent hs.1 _, (keepsParts_valuesInRange c).served s _ hs.2.1, ?_⟩
    have hempty := State.lists_empty_of_holdingGates hgates
    exact placesKept_emptied (modesSent_list hempty .config) (State.sailings_none_of_openBerths hberths)
      (hs.1.idle_of_empty hempty) fun h => absurd rfl h
  mustered s hs hcause := by
    refine ⟨accounted_musterEntry hs.1, (keepsParts_valuesInRange c).mustered hs.2.1, ?_⟩
    obtain ⟨hfits, hplaces, -⟩ := (placesKept_iff s).mp hs.2.2
    exact placesKept_musterEntry hs.1 hplaces (hcause.elim hfits.equipped And.right)
  resumed s hs hmuster := by
    refine ⟨(keeps_accounted c).resumed s hs.1 hmuster, (keepsParts_valuesInRange c).resumed hs.2.1, ?_⟩
    exact hs.2.2.resumed hs.1 hmuster
  phased s p hs hp := hs
  began s p hs := by
    refine ⟨(keeps_accounted c).began s p hs.1, (keepsParts_valuesInRange c).began s p hs.2.1, ?_⟩
    have hequipped := ((serviceFits_iff s).mp hs.2.2.1).2.2.2
    exact placesKept_emptied (fun g => by simp [dropped]) (fun b => by simp [dropped]) rfl hequipped
  cameOut s k hc hs := by
    refine ⟨accounted_comeOut hs.1 k, (keepsParts_valuesInRange c).cameOut s k hc hs.2.1, ?_⟩
    have hlists (k : ResetKind) (g : Gate) :
        (s.gates.map (GateContext.afterReset (decide (k = .command))))[g].list = [] := by
      rw [getElem_map_fin]
      rfl
    have hsailings (b : BerthNo) : (Vector.replicate 4 (none : Option Sailing))[b] = none := by simp
    cases k
    · exact placesKept_emptied (hlists .power) hsailings rfl fun h => absurd rfl h
    · exact placesKept_emptied (hlists .line) hsailings rfl fun h => absurd rfl h
    · exact placesKept_emptied (hlists .command) hsailings rfl fun h => absurd rfl h

/-- Settles O57: held places move with the passengers who await, and room is there before a place is taken. -/
theorem stepKeepsPlaces : Obligations.StepKeepsPlaces := fun _ _ haccounted _ hvalues hplaces hstep =>
  (Keeps.step keeps_placed (fun _ _ hs => hs) ⟨haccounted, hvalues, hplaces⟩ hstep).2.2

end Sys2Proof.Machine
end

section
/-! Muster entry taken whole (R147 to R152): what each gate, lane, slot and sailing becomes does not change as the
transactions end one by one, in the order of gates and lists. -/
namespace Sys2Proof.Machine
open Sys2Proof.Claims

/-! ### The parts of muster entry -/

/-- A gate after muster entry (R6, R150). -/
def GateContext.evacuated (c : GateContext) : GateContext :=
  { c with
    list := []
    state := if c.state = .draining ∧ c.list ≠ [] then .disabled else c.state
    modeSent := some .freeEgress }

/-- A lane's frames after muster entry (R6, R149, R150). -/
def evacuatedLane (frames : List GateFrame) (c : GateContext) : List GateFrame :=
  frames ++ musterAnswers c ++ if c.modeSent = some .freeEgress then [] else [.gateMode .freeEgress]

/-- A pass slot after muster entry: a use in flight is taken back (R110, R150). -/
def PassSlot.withdrawn (p : PassSlot) : PassSlot := if p.inFlight then { p with uses := p.uses - 1, inFlight := false } else p

/-- A berth's sailing after muster entry (R151). -/
def evacuatedSailing (o : Option Sailing) : Option Sailing :=
  o.bind fun sl =>
    if sl.state = .closing then none
    else some { sl with state := .suspended, held := 0, alertArmed := sl.alertArmed || decide (0 < sl.held) }

/-- The VOIDED records of a gate (R150). -/
def voidedBodies (now : ServiceTime) (g : Gate) (c : GateContext) : List RecordBody :=
  c.list.filterMap fun t => t.awaiting?.map fun a =>
    .tap (tapFields .voided g c.config.berth t.tap t.card a.verdict now)

/-- The summary of berth b when its sailing is CLOSING (R151). -/
def closingBody (now : ServiceTime) (b : BerthNo) (o : Option Sailing) : Option RecordBody :=
  match o with
  | some sl => if sl.state = .closing then some (.summary (summaryFields b sl now)) else none
  | none => none

/-- The summaries of the CLOSING sailings of these berths (R151). -/
def closingBodies (now : ServiceTime) (v : Vector (Option Sailing) 4) (bs : List BerthNo) : List RecordBody :=
  bs.filterMap fun b => closingBody now b v[b]

/-- The records of muster entry, gate by gate and then berth by berth. -/
def evacuationBodies (now : ServiceTime) (gates : Vector GateContext 16) (sailings : Vector (Option Sailing) 4) : List RecordBody :=
  ((List.finRange 16).flatMap fun g => voidedBodies now g gates[g]) ++ closingBodies now sailings (List.finRange 4)

theorem musterBodies_eq (s : State) (now : ServiceTime) : musterBodies s now = evacuationBodies now s.gates s.sailings := by
  unfold musterBodies evacuationBodies closingBodies closingBody State.transactions
  rw [List.filterMap_flatMap]
  congr 1
  refine congrArg (fun f => List.flatMap f (List.finRange 16)) (funext fun g => ?_)
  rw [List.filterMap_map]
  rfl

/-- Open sailings that board (R151). -/
def boardingIn (v : Vector (Option Sailing) 4) : Nat := v.toList.countP fun o => decide (o.map (·.state) = some .boarding)

theorem musterEntered_eq (s : State) (now : ServiceTime) :
    musterEntered s now = { s with
      service := .muster
      engine := none
      waitingWrites := []
      waitingActivation := none
      filters := s.waitingWrites.foldl (fun fs w => fs.set w.index w.entry) s.filters
      activeBank := match s.waitingActivation with | some w => some w.bank | none => s.activeBank
      outgoing := s.outgoing ++ musterReplies s
      gates := s.gates.map GateContext.evacuated
      laneOut := Vector.ofFn fun g : Fin 16 => evacuatedLane s.laneOut[g] s.gates[g]
      slots := s.slots.map fun o => o.map PassSlot.withdrawn
      sailings := s.sailings.map evacuatedSailing
      written := s.written ++ numbered s.nextSeq (evacuationBodies now s.gates s.sailings)
      nextSeq := s.nextSeq + BitVec.ofNat 16 (evacuationBodies now s.gates s.sailings).length
      reserved := boardingIn s.sailings
      queueHighArmed := s.queueHighArmed
        || (s.engine.isSome && decide (s.written.length + (s.reserved - 1) < s.params.highMark)) } := by
  unfold musterEntered
  rw [musterBodies_eq]
  rfl

/-! ### Records in their order -/

/-- The first item of the first gate that has one comes first of all. -/
theorem flatMap_finRange_cons {α : Type} {n : Nat} {f f' : Fin n → List α} {i : Fin n} {xs : List α}
    (hi : f i = xs ++ f' i) (hbefore : ∀ j < i, f j = []) (hother : ∀ j, j ≠ i → f' j = f j) :
    (List.finRange n).flatMap f = xs ++ (List.finRange n).flatMap f' := by
  obtain ⟨before, after, hsplit⟩ := List.append_of_mem (List.mem_finRange i)
  have hsorted := List.pairwise_lt_finRange n
  rw [hsplit] at hsorted ⊢
  obtain ⟨-, hafter, hlt⟩ := List.pairwise_append.mp hsorted
  have hnone (k : Fin n) (hk : k ∈ before) : f k = [] := hbefore k (hlt k hk i List.mem_cons_self)
  have hnone' (k : Fin n) (hk : k ∈ before) : f' k = [] :=
    (hother k (ne_of_lt (hlt k hk i List.mem_cons_self))).trans (hnone k hk)
  have hsame (k : Fin n) (hk : k ∈ after) : f' k = f k := hother k (ne_of_gt ((List.pairwise_cons.mp hafter).1 k hk))
  rw [List.flatMap_append, List.flatMap_append, List.flatMap_cons, List.flatMap_cons,
    List.flatMap_eq_nil_iff.mpr hnone, List.flatMap_eq_nil_iff.mpr hnone', hi,
    List.flatMap_congr hsame, List.nil_append, List.nil_append, List.append_assoc]

/-- Sequence numbers run on (R134). -/
theorem seq_succ (n : SeqNumber) (k : Nat) : n + 1 + BitVec.ofNat 16 k = n + BitVec.ofNat 16 (k + 1) := by
  rw [BitVec.ofNat_add, BitVec.add_assoc, BitVec.add_comm (1 : BitVec 16)]
  rfl

/-! ### One transaction ends -/

section
variable {c : GateContext} {t : Transaction} {rest : List Transaction}

theorem GateContext.ended_head (hl : c.list = t :: rest) : (c.ended t.tap).list = rest := by
  change withoutTap c.list t.tap = rest
  rw [hl]
  exact withoutTap_append (as := []) rfl fun _ h => nomatch h

theorem GateContext.ended_evacuated {tap : TapNumber} (hfind : findTap c.list tap = some t) :
    (c.ended tap).evacuated = c.evacuated := by
  have hne : c.list ≠ [] := List.ne_nil_of_mem (mem_of_findTap hfind)
  by_cases hdraining : c.state = .draining
  · by_cases hlast : c.list.eraseP (fun t => decide (t.tap = tap)) = []
    · simp [GateContext.ended, GateContext.evacuated, hdraining, hlast, hne]
    · simp [GateContext.ended, GateContext.evacuated, hdraining, hlast, hne]
  · simp [GateContext.ended, GateContext.evacuated, hdraining]

/-- No DECIDING transaction: the answers are those of the PENDING ones. -/
theorem musterAnswers_of_no_deciding (hno : ∀ u ∈ c.list, u.state ≠ .deciding) :
    musterAnswers c = (c.list.filter Transaction.isPending).map fun u => .verdict u.tap .muster none 0 none false := by
  have hnone : (c.list.filter fun u => decide (u.state = .deciding)) = [] := by simpa using hno
  rw [musterAnswers, hnone, List.nil_append]

end

/-- The gates of the part, changed at g alone. -/
theorem map_set_of_eq {α β : Type} {n : Nat} {f : α → β} {v : Vector α n} {i : Fin n} {x : α} (h : f x = f v[i]) :
    (v.set i x).map f = v.map f := vector_ext_fin fun j => by
  rw [getElem_map_fin, getElem_map_fin, getElem_set_fin]
  split
  · rename_i hj
    rw [h, hj]
  · rfl

theorem evacuatedLane_set {lanes : Vector (List GateFrame) 16} {gates : Vector GateContext 16} {g : Gate}
    {frames : List GateFrame} {c : GateContext} (h : evacuatedLane frames c = evacuatedLane lanes[g] gates[g]) :
    (Vector.ofFn fun g' : Fin 16 => evacuatedLane (lanes.set g frames)[g'] (gates.set g c)[g']) =
      Vector.ofFn fun g' : Fin 16 => evacuatedLane lanes[g'] gates[g'] := vector_ext_fin fun g' => by
  rw [getElem_ofFn_fin, getElem_ofFn_fin, getElem_set_fin, getElem_set_fin]
  split
  · rename_i hg
    rw [h, hg]
  · rfl

section
variable {s : State} {g : Gate} {t : Transaction} {rest : List Transaction} {now : ServiceTime}

/-- A PENDING transaction answered and ended: muster entry goes on to the same state. -/
theorem musterEntered_pending (hl : s.gates[g].list = t :: rest) (hno : ∀ u ∈ s.gates[g].list, u.state ≠ .deciding)
    (ht : t.isPending = true) :
    musterEntered ((s.endTx g t.tap).answerTap g t.tap .muster) now = musterEntered s now := by
  have hgates : (s.gates.set g (s.gates[g].ended t.tap)).map GateContext.evacuated = s.gates.map GateContext.evacuated :=
    map_set_of_eq (GateContext.ended_evacuated (findTap_head hl))
  have hlane : evacuatedLane (s.laneOut[g] ++ [.verdict t.tap .muster none 0 none false]) (s.gates[g].ended t.tap) =
      evacuatedLane s.laneOut[g] s.gates[g] := by
    have hrest := GateContext.ended_head hl
    rw [evacuatedLane, evacuatedLane, musterAnswers_of_no_deciding hno, musterAnswers_of_no_deciding (by
      rw [hrest]
      exact fun u hu => hno u (by rw [hl]; exact List.mem_cons_of_mem t hu)), hrest, hl, List.filter_cons_of_pos ht,
      List.map_cons, List.append_assoc s.laneOut[g], List.singleton_append]
    rfl
  have hbodies : evacuationBodies now (s.gates.set g (s.gates[g].ended t.tap)) s.sailings =
      evacuationBodies now s.gates s.sailings := by
    unfold evacuationBodies
    refine congrArg (· ++ _) (List.flatMap_congr fun g' _ => ?_)
    rw [getElem_set_fin]
    split
    · rename_i hg
      subst hg
      have hnone : t.awaiting? = none := by
        cases hstate : t.state <;> simp_all [Transaction.awaiting?, Transaction.isPending]
      rw [voidedBodies, voidedBodies, GateContext.ended_head hl, hl, List.filterMap_cons_none (by rw [hnone]; rfl)]
      rfl
    · rfl
  rw [musterEntered_eq, musterEntered_eq]
  simp only [State.answerTap, State.sendLane, State.endTx, State.setGate]
  rw [hgates, hbodies, evacuatedLane_set hlane] <;> rfl

/-- A sailing whose place, when the transaction holds one, is given up (R20). -/
def placeGivenUp (a : Awaiting) (sl : Sailing) : Sailing :=
  match a.place with
  | .passenger => { sl with
      held := sl.held - 1
      alertArmed := decide (sl.boarded + (sl.held - 1) < sl.capacity) || sl.alertArmed }
  | _ => sl

/-- A pass slot whose use is taken back (R110). -/
def useTakenBack (p : PassSlot) : PassSlot := { p with uses := p.uses - 1, inFlight := false }

theorem notBoarded_eq (s : State) (g : Gate) (t : Transaction) (a : Awaiting) (kind : TapKind) (now : ServiceTime) :
    notBoarded s g t a kind now = { s with
      gates := s.gates.set g (s.gates[g].ended t.tap)
      sailings := (onSailingOf s g (placeGivenUp a)).sailings
      slots := (Claims.onSlot s a.slot useTakenBack).slots
      written := s.written ++ [⟨s.nextSeq, .tap (tapFields kind g s.gates[g].config.berth t.tap t.card a.verdict now)⟩]
      nextSeq := s.nextSeq + 1
      reserved := s.reserved - 1 } := rfl

/-- A sailing whose place is given up leaves muster entry as it would have (R20, R151). -/
theorem evacuatedSailing_placeGivenUp {a : Awaiting} {sl : Sailing} (hheld : a.places ≤ sl.held)
    (hroom : sl.boarded + sl.held ≤ sl.capacity) : evacuatedSailing (some (placeGivenUp a sl)) = evacuatedSailing (some sl) := by
  unfold placeGivenUp
  cases hplace : a.place with
  | passenger =>
    have hone : 1 ≤ sl.held := by simpa [Awaiting.places, hplace] using hheld
    have hfree : sl.boarded + (sl.held - 1) < sl.capacity := by omega
    simp [evacuatedSailing, Nat.pos_of_ne_zero (Nat.ne_of_gt hone), hfree]
  | crew => rfl
  | nothing => rfl

theorem placeGivenUp_summary (a : Awaiting) (b : BerthNo) (sl : Sailing) (now : ServiceTime) :
    (placeGivenUp a sl).state = sl.state ∧ summaryFields b (placeGivenUp a sl) now = summaryFields b sl now := by
  unfold placeGivenUp
  split <;> exact ⟨rfl, rfl⟩

theorem boardingIn_congr {v w : Vector (Option Sailing) 4} (h : ∀ b : BerthNo, w[b].map (·.state) = v[b].map (·.state)) :
    boardingIn w = boardingIn v := by
  have hmap : w.map (fun o => o.map (·.state)) = v.map fun o => o.map (·.state) := vector_ext_fin fun b => by
    rw [getElem_map_fin, getElem_map_fin, h b]
  have hcount (u : Vector (Option Sailing) 4) : boardingIn u =
      (u.map fun o => o.map (·.state)).toList.countP fun o => decide (o = some .boarding) := by
    rw [Vector.toList_map, List.countP_map]
    rfl
  rw [hcount, hmap, ← hcount]

theorem closingBodies_congr {v w : Vector (Option Sailing) 4} (bs : List BerthNo)
    (h : ∀ b ∈ bs, w[b].map (fun sl => (sl.state, summaryFields b sl now)) = v[b].map fun sl => (sl.state, summaryFields b sl now)) :
    closingBodies now w bs = closingBodies now v bs := by
  refine List.filterMap_congr fun b hb => ?_
  have hb := h b hb
  cases hw : w[b] <;> cases hv : v[b] <;> simp_all [closingBody]

theorem places_le_held (hplaces : PlacesTrue s) {tap : TapNumber} (hfind : findTap s.gates[g].list tap = some t) {a : Awaiting}
    (ht : t.state = .awaiting a) {b : BerthNo} (hberth : s.gates[g].config.berth = some b) {sl : Sailing}
    (hsl : s.sailings[b] = some sl) : a.places ≤ sl.held := by
  have hcount := countOf_rides_ended (v := s.gates) hfind ht b
  have hheld := (hplaces b).1
  rw [hberth, if_pos rfl] at hcount
  rw [hsl] at hheld
  change _ = sl.held at hheld
  omega

/-- An awaiting transaction voided: muster entry goes on to the same state (R150). -/
theorem musterEntered_awaiting (hidle : s.engine = none) (hplaces : PlacesTrue s) (hfirst : ∀ g' < g, s.gates[g'].list = [])
    (hl : s.gates[g].list = t :: rest) (hno : ∀ u ∈ s.gates[g].list, u.state ≠ .deciding) {a : Awaiting}
    (ht : t.state = .awaiting a) (hslot : ∀ k ∈ a.slot, ∀ p ∈ s.slots[k], p.inFlight = true) :
    musterEntered (notBoarded s g t a .voided now) now = musterEntered s now := by
  have hgates : (s.gates.set g (s.gates[g].ended t.tap)).map GateContext.evacuated = s.gates.map GateContext.evacuated :=
    map_set_of_eq (GateContext.ended_evacuated (findTap_head hl))
  have hrest := GateContext.ended_head hl
  have hlane : evacuatedLane s.laneOut[g] (s.gates[g].ended t.tap) = evacuatedLane s.laneOut[g] s.gates[g] := by
    have hnot : ¬ t.isPending = true := by simp [Transaction.isPending, ht]
    rw [evacuatedLane, evacuatedLane, musterAnswers_of_no_deciding hno, musterAnswers_of_no_deciding (by
      rw [hrest]
      exact fun u hu => hno u (by rw [hl]; exact List.mem_cons_of_mem t hu)), hrest, hl, List.filter_cons_of_neg hnot]
    rfl
  have hlanes := evacuatedLane_set (lanes := s.laneOut) hlane
  rw [vector_set_self] at hlanes
  have hsailings (b : BerthNo) :
      evacuatedSailing (onSailingOf s g (placeGivenUp a)).sailings[b] = evacuatedSailing s.sailings[b] ∧
        (onSailingOf s g (placeGivenUp a)).sailings[b].map (fun sl => (sl.state, summaryFields b sl now)) =
          s.sailings[b].map fun sl => (sl.state, summaryFields b sl now) := by
    unfold onSailingOf
    dsimp only
    split
    · rename_i b' hberth
      rw [getElem_set_fin]
      split
      · rename_i hb
        subst hb
        cases hsl : s.sailings[b'] with
        | none => exact ⟨rfl, rfl⟩
        | some sl =>
          have hheld := places_le_held hplaces (findTap_head hl) ht hberth hsl
          obtain ⟨hstate, hsummary⟩ := placeGivenUp_summary a b' sl now
          refine ⟨evacuatedSailing_placeGivenUp hheld ((hplaces b').2 sl hsl).1, ?_⟩
          rw [Option.map_some, Option.map_some, Option.map_some, hstate, hsummary]
      · exact ⟨rfl, rfl⟩
    · exact ⟨rfl, rfl⟩
  have hslots : (Claims.onSlot s a.slot useTakenBack).slots.map (fun o => o.map PassSlot.withdrawn) =
      s.slots.map fun o => o.map PassSlot.withdrawn := by
    unfold Claims.onSlot
    dsimp only
    split
    · rename_i k hk
      refine map_set_of_eq ?_
      cases hp : s.slots[k] with
      | none => rfl
      | some p => simp [PassSlot.withdrawn, useTakenBack, hslot k hk p hp]
    · rfl
  have hclosing := closingBodies_congr (List.finRange 4) fun b _ => (hsailings b).2
  have hbodies : evacuationBodies now s.gates s.sailings =
      .tap (tapFields .voided g s.gates[g].config.berth t.tap t.card a.verdict now) ::
        evacuationBodies now (s.gates.set g (s.gates[g].ended t.tap)) (onSailingOf s g (placeGivenUp a)).sailings := by
    unfold evacuationBodies
    rw [hclosing, ← List.cons_append]
    refine congrArg (· ++ _) (flatMap_finRange_cons (i := g) (xs := [_]) ?_ (fun g' hg' => ?_) fun g' hg' => ?_)
    · rw [getElem_set_fin_self, voidedBodies, voidedBodies, hrest, hl,
        List.filterMap_cons_some (b := .tap (tapFields .voided g s.gates[g].config.berth t.tap t.card a.verdict now))
          (by rw [Transaction.awaiting?, ht]; rfl)]
      rfl
    · rw [voidedBodies, hfirst g' hg']
      rfl
    · rw [getElem_set_fin_ne _ (Ne.symm hg')]
  have hmap : (onSailingOf s g (placeGivenUp a)).sailings.map evacuatedSailing = s.sailings.map evacuatedSailing :=
    vector_ext_fin fun b => by rw [getElem_map_fin, getElem_map_fin, (hsailings b).1]
  have hboarding : boardingIn (onSailingOf s g (placeGivenUp a)).sailings = boardingIn s.sailings :=
    boardingIn_congr fun b => by
      have hstate := congrArg (Option.map Prod.fst) (hsailings b).2
      simpa [Function.comp_def] using hstate
  rw [musterEntered_eq, musterEntered_eq, notBoarded_eq, hbodies]
  simp only [hgates, hlanes, hmap, hboarding, hslots, hidle, numbered, List.length_cons, ← seq_succ, List.append_assoc,
    List.singleton_append, Option.isSome_none, Bool.false_and] <;> rfl

end

end Sys2Proof.Machine
end

section
/-! Muster entry taken whole (R147 to R152): the decision abandoned, the transactions one by one, the berths in order. -/
namespace Sys2Proof.Machine
open Sys2Proof.Claims

/-! ### Slots in flight and the transactions that carry them (R110) -/

/-- A transaction that carries pass slot k. -/
def carries (k : SlotNo) (_ : GateSettings) (t : Transaction) : Bool := decide (t.awaiting?.bind (·.slot) = some k)

theorem State.carriersOf_eq (s : State) (k : SlotNo) : s.carriersOf k = countOf (carries k) s.gates :=
  countP_transactions s (carries k)

/-- A slot in flight is carried by exactly one transaction, any other by none. -/
def Carried (s : State) : Prop :=
  ∀ k : SlotNo, countOf (carries k) s.gates = if s.slots[k].map (·.inFlight) = some true then 1 else 0

theorem carried_of_usesKept {s : State} (hs : UsesKept s) : Carried s := fun k => by
  rw [← State.carriersOf_eq]
  exact hs.2.1 k

section
variable {s : State} {g : Gate} {tap : TapNumber} {t : Transaction} {a : Awaiting}

theorem carries_of_awaiting (ht : t.state = .awaiting a) (k : SlotNo) (v : GateSettings) :
    carries k v t = decide (a.slot = some k) := by
  simp [carries, Transaction.awaiting?, ht]

theorem carries_of_not_awaiting (ht : ∀ a, t.state ≠ .awaiting a) (k : SlotNo) (v : GateSettings) : carries k v t = false := by
  unfold carries Transaction.awaiting?
  cases hstate : t.state with
  | awaiting a => exact absurd hstate (ht a)
  | pending | deciding => simp

/-- The slot that a transaction carries is in flight. -/
theorem Carried.inFlight (hs : Carried s) (hfind : findTap s.gates[g].list tap = some t) (ht : t.state = .awaiting a)
    {k : SlotNo} (hk : k ∈ a.slot) : ∀ p ∈ s.slots[k], p.inFlight = true := by
  intro p hp
  have hcount := countOf_ended (carries k) hfind
  rw [carries_of_awaiting ht, decide_eq_true (p := a.slot = some k) hk, if_pos rfl, hs k] at hcount
  by_contra hnot
  rw [Option.mem_def] at hp
  rw [hp, Option.map_some, if_neg (fun h => hnot (Option.some.inj h))] at hcount
  omega

theorem Carried.ended (hs : Carried s) (hfind : findTap s.gates[g].list tap = some t) (ht : ∀ a, t.state ≠ .awaiting a)
    {u : State} (hgates : u.gates = s.gates.set g (s.gates[g].ended tap)) (hslots : u.slots = s.slots) : Carried u := fun k => by
  have hcount := countOf_ended (carries k) hfind
  rw [carries_of_not_awaiting ht, if_neg Bool.false_ne_true, Nat.add_zero] at hcount
  rw [hgates, hslots, hcount]
  exact hs k

/-- A use is taken back as the transaction that carries it ends. -/
theorem Carried.notBoarded (hs : Carried s) (hfind : findTap s.gates[g].list t.tap = some t) (ht : t.state = .awaiting a)
    (kind : TapKind) (now : ServiceTime) : Carried (notBoarded s g t a kind now) := fun k => by
  have hcount := countOf_ended (carries k) hfind
  rw [carries_of_awaiting ht, hs k] at hcount
  rw [notBoarded_eq]
  unfold Claims.onSlot
  dsimp only
  cases hslot : a.slot with
  | none =>
    rw [hslot, decide_eq_false (Option.some_ne_none k).symm, if_neg Bool.false_ne_true, Nat.add_zero] at hcount
    exact hcount
  | some k' =>
    dsimp only
    rw [getElem_set_fin]
    by_cases hk : k' = k
    · subst hk
      have hgone : (s.slots[k'].map useTakenBack).map (·.inFlight) ≠ some true := by
        cases s.slots[k'] <;> simp [useTakenBack]
      rw [if_pos rfl, if_neg hgone]
      rw [hslot, decide_eq_true rfl, if_pos rfl] at hcount
      split at hcount <;> omega
    · rw [if_neg hk]
      rw [hslot, decide_eq_false (fun h => hk (Option.some.inj h)), if_neg Bool.false_ne_true, Nat.add_zero] at hcount
      exact hcount

end

/-! ### The decision abandoned (R43, R149) -/

section
variable {s : State} {now : ServiceTime}

/-- The DECIDING transaction is answered before the PENDING ones. -/
theorem musterAnswers_ended {c : GateContext} {tap : TapNumber} {t : Transaction} (hfind : findTap c.list tap = some t)
    (hstate : t.state = .deciding) (hnodup : (c.list.map (·.tap)).Nodup)
    (honly : ∀ u ∈ c.list, u.state = .deciding → u.tap = tap) :
    musterAnswers c = .verdict tap .muster none 0 none false :: musterAnswers (c.ended tap) := by
  have hrest : ∀ u ∈ (c.ended tap).list, u.state ≠ .deciding := fun u hu h =>
    tap_ne_of_mem_withoutTap hnodup hu (honly u (mem_of_withoutTap hu) h)
  rw [musterAnswers_of_no_deciding hrest]
  obtain ⟨htap, before, after, hsplit, hbefore⟩ := findTap_eq_some_iff.mp hfind
  have hlist : (c.ended tap).list = before ++ after := by
    change withoutTap c.list tap = _
    rw [hsplit, withoutTap_append htap hbefore]
  rw [hlist] at hrest ⊢
  have hnone (l : List Transaction) (hl : ∀ u ∈ l, u ∈ before ++ after) :
      l.filter (fun u => decide (u.state = .deciding)) = [] := by
    simpa using fun u hu => hrest u (hl u hu)
  have hnot : ¬ t.isPending = true := by simp [Transaction.isPending, hstate]
  rw [musterAnswers, hsplit, List.filter_append, List.filter_append, List.filter_append,
    hnone before fun u hu => List.mem_append_left _ hu,
    List.filter_cons_of_pos (p := fun u : Transaction => decide (u.state = .deciding)) (decide_eq_true hstate), hnone after fun u hu => List.mem_append_right _ hu,
    List.filter_cons_of_neg hnot, ← htap]
  rfl

/-- The decision given up: muster entry goes on to the same state. -/
theorem musterEntered_abandoned (haccounted : Accounted s) (hwaiters : WaitersHaveCause s) :
    musterEntered s.abandonDecision.applyActivation now = musterEntered s now := by
  rw [State.applyActivation_eq]
  cases hengine : s.engine with
  | none =>
    have hwrites : s.waitingWrites = [] := by
      by_contra h
      have hsearching := hwaiters.1 h
      rw [State.not_searching_of_idle hengine] at hsearching
      cases hsearching
    rw [State.abandonDecision_none hengine, musterEntered_eq, musterEntered_eq]
    simp only [musterReplies, hwrites, List.map_nil, List.nil_append, List.append_nil] <;> rfl
  | some d =>
    obtain ⟨t, hfind, hstate⟩ := haccounted.deciding hengine
    have hgates : (s.gates.set d.gate (s.gates[d.gate].ended d.tap)).map GateContext.evacuated =
        s.gates.map GateContext.evacuated := map_set_of_eq (GateContext.ended_evacuated hfind)
    have hanswers : musterAnswers s.gates[d.gate] =
        .verdict d.tap .muster none 0 none false :: musterAnswers (s.gates[d.gate].ended d.tap) :=
      musterAnswers_ended hfind hstate (haccounted.1 d.gate).1 fun u hu hdeciding => by
        have hnames := (accounted_iff_agreed.mp haccounted).deciding d.gate u hu hdeciding
        rw [hengine] at hnames
        exact (congrArg Prod.snd (Option.some.inj hnames)).symm
    have hlane : evacuatedLane (s.laneOut[d.gate] ++ [.verdict d.tap .muster none 0 none false])
        (s.gates[d.gate].ended d.tap) = evacuatedLane s.laneOut[d.gate] s.gates[d.gate] := by
      rw [evacuatedLane, evacuatedLane, hanswers, List.append_assoc s.laneOut[d.gate], List.singleton_append]
      rfl
    have hbodies : evacuationBodies now (s.gates.set d.gate (s.gates[d.gate].ended d.tap)) s.sailings =
        evacuationBodies now s.gates s.sailings := by
      unfold evacuationBodies
      refine congrArg (· ++ _) (List.flatMap_congr fun g' _ => ?_)
      rw [getElem_set_fin]
      split
      · rename_i hg
        subst hg
        obtain ⟨htap, before, after, hsplit, hbefore⟩ := findTap_eq_some_iff.mp hfind
        have hlist : (s.gates[d.gate].ended d.tap).list = before ++ after := by
          change withoutTap s.gates[d.gate].list d.tap = _
          rw [hsplit, withoutTap_append htap hbefore]
        have hnone : t.awaiting? = none := by rw [Transaction.awaiting?, hstate]
        rw [voidedBodies, voidedBodies, hlist, hsplit, List.filterMap_append, List.filterMap_append,
          List.filterMap_cons_none (by rw [hnone]; rfl)]
        rfl
      · rfl
    have habandon : s.abandonDecision = { s with
        gates := s.gates.set d.gate (s.gates[d.gate].ended d.tap)
        laneOut := s.laneOut.set d.gate (s.laneOut[d.gate] ++ [.verdict d.tap .muster none 0 none false])
        reserved := s.reserved - 1
        queueHighArmed := decide (s.written.length + (s.reserved - 1) < s.params.highMark) || s.queueHighArmed
        engine := none
        filters := s.waitingWrites.foldl (fun fs w => fs.set w.index w.entry) s.filters
        waitingWrites := []
        outgoing := s.outgoing ++ s.waitingWrites.map fun w => .reply Command.loadFilter.code w.tag .ok .nothing } :=
      State.abandonDecision_eq hengine
    rw [habandon, musterEntered_eq, musterEntered_eq]
    simp only [musterReplies, List.map_nil, List.append_nil, List.foldl_nil, List.append_assoc, Option.isSome_none,
      Bool.false_and, Bool.or_false, hengine, Option.isSome_some, Bool.true_and, hgates, evacuatedLane_set hlane, hbodies,
      Bool.or_comm s.queueHighArmed] <;> rfl

end

/-! ### The berths in order (R151) -/

/-- Records numbered one after another. -/
theorem numbered_append (n : SeqNumber) (xs ys : List RecordBody) :
    numbered n (xs ++ ys) = numbered n xs ++ numbered (n + BitVec.ofNat 16 xs.length) ys := by
  induction xs generalizing n with
  | nil => simp [numbered]
  | cons x xs ih => rw [List.cons_append, numbered, numbered, ih, List.length_cons, seq_succ, List.cons_append]

theorem closingBodies_cons (now : ServiceTime) (v : Vector (Option Sailing) 4) (b : BerthNo) (bs : List BerthNo) :
    closingBodies now v (b :: bs) = closingBodies now v [b] ++ closingBodies now v bs :=
  List.filterMap_append (l := [b]) (l' := bs)

theorem closingBodies_singleton (now : ServiceTime) (v : Vector (Option Sailing) 4) (b : BerthNo) :
    closingBodies now v [b] = (closingBody now b v[b]).toList := by
  unfold closingBodies
  cases h : closingBody now b v[b] with
  | none => rw [List.filterMap_cons_none (f := fun b => closingBody now b v[b]) h, Option.toList_none, List.filterMap_nil]
  | some x => rw [List.filterMap_cons_some (f := fun b => closingBody now b v[b]) h, Option.toList_some, List.filterMap_nil]

theorem State.eq_with_gates_engine {u : State} {v : Vector GateContext 16} {e : Option Decision} (hgates : u.gates = v)
    (hengine : u.engine = e) : u = { u with gates := v, engine := e } := by
  subst hgates hengine
  rfl

/-- A part whose lists are empty and whose engine is idle. -/
def Cleared (now : ServiceTime) (s : State) : Prop := s.engine = none ∧ (∀ g : Gate, s.gates[g].list = []) ∧ s.now = now

section
variable {s : State} {now : ServiceTime}

/-- One berth's muster: its CLOSING sailing closes with its summary. -/
theorem Cleared.musterBerth_eq (hs : Cleared now s) (b : BerthNo) :
    s.musterBerth b = { s with
      sailings := (s.musterBerth b).sailings
      written := s.written ++ numbered s.nextSeq (closingBodies now s.sailings [b])
      nextSeq := s.nextSeq + BitVec.ofNat 16 (closingBodies now s.sailings [b]).length
      reserved := s.reserved - (closingBodies now s.sailings [b]).length } := by
  obtain ⟨hidle, hlists, hnow⟩ := hs
  rw [closingBodies_singleton]
  unfold State.musterBerth
  cases hsl : s.sailings[b] with
  | none => simp [numbered, closingBody]
  | some sl =>
    cases hstate : sl.state with
    | boarding => simp [hstate, numbered, State.setSailing, closingBody]
    | suspended => simp [hstate, numbered, closingBody]
    | closing =>
      have hgates : (closed s b sl now).gates = s.gates := vector_ext_fin fun g => by
        simp only [closed, recorded, getElem_map_fin, hlists g, List.map_nil]
        split
        · rw [← hlists g]
        · rfl
      have hengine : (closed s b sl now).engine = s.engine := by simp [closed, hidle]
      have hbody : closingBody now b (some sl) = some (.summary (summaryFields b sl now)) := if_pos hstate
      simp only [hstate, State.closeSailing_eq_closed hsl, hnow, hbody, Option.toList_some]
      exact State.eq_with_gates_engine hgates hengine

theorem Cleared.musterBerth (hs : Cleared now s) (b : BerthNo) : Cleared now (s.musterBerth b) := by
  rw [hs.musterBerth_eq]
  exact hs

/-- The berths of a list in turn, each once. -/
theorem Cleared.foldl_musterBerth (bs : List BerthNo) (hbs : bs.Nodup) (hs : Cleared now s) :
    bs.foldl State.musterBerth s = { s with
      sailings := (bs.foldl State.musterBerth s).sailings
      written := s.written ++ numbered s.nextSeq (closingBodies now s.sailings bs)
      nextSeq := s.nextSeq + BitVec.ofNat 16 (closingBodies now s.sailings bs).length
      reserved := s.reserved - (closingBodies now s.sailings bs).length } := by
  induction bs generalizing s with
  | nil => simp [closingBodies, numbered]
  | cons b bs ih =>
    obtain ⟨hb, hbs⟩ := List.nodup_cons.mp hbs
    have hlater : closingBodies now (s.musterBerth b).sailings bs = closingBodies now s.sailings bs :=
      closingBodies_congr bs fun b' hb' => by
        have hne : b ≠ b' := fun h => hb (h ▸ hb')
        rw [musterBerth_sailings, if_neg hne]
    have hstep := ih hbs (hs.musterBerth b)
    rw [hlater] at hstep
    rw [List.foldl_cons, closingBodies_cons, numbered_append, List.length_append, BitVec.ofNat_add]
    generalize (bs.foldl State.musterBerth (s.musterBerth b)).sailings = sailings at hstep ⊢
    rw [hstep, hs.musterBerth_eq b]
    simp only [List.append_assoc, Nat.sub_sub, BitVec.add_assoc]

end

/-! ### Sailings that board and sailings that close -/

/-- No sailing is SUSPENDED. -/
def NoneSuspended (s : State) : Prop := ∀ b : BerthNo, ∀ sl ∈ s.sailings[b], sl.state ≠ .suspended

theorem toList_eq_map_finRange {α : Type} {n : Nat} (v : Vector α n) : v.toList = (List.finRange n).map fun i => v[i] := by
  have hv : v = Vector.ofFn fun i : Fin n => v[i] := vector_ext_fin fun i => (getElem_ofFn_fin i fun i => v[i]).symm
  conv_lhs => rw [hv]
  rw [Vector.toList_ofFn, List.ofFn_eq_map]

theorem open_eq_boarding_add_closing (now : ServiceTime) (b : BerthNo) {o : Option Sailing}
    (ho : ∀ sl ∈ o, sl.state ≠ .suspended) : (if o.isSome = true then 1 else 0) =
      (if decide (o.map (·.state) = some .boarding) = true then 1 else 0) +
        if (closingBody now b o).isSome = true then 1 else 0 := by
  cases o with
  | none => rfl
  | some sl =>
    have hnot := ho sl rfl
    cases hstate : sl.state with
    | boarding | closing => simp [closingBody, hstate]
    | suspended => exact absurd hstate hnot

/-- Every open sailing boards or closes where none is SUSPENDED. -/
theorem openIn_eq_boarding_add_closing {s : State} (hs : NoneSuspended s) (now : ServiceTime) :
    openIn s.sailings = boardingIn s.sailings + (closingBodies now s.sailings (List.finRange 4)).length := by
  rw [openIn, boardingIn, toList_eq_map_finRange, List.countP_map, List.countP_map, closingBodies,
    List.length_filterMap_eq_countP]
  have hsplit (l : List BerthNo) : l.countP (Option.isSome ∘ fun i => s.sailings[i]) =
      l.countP ((fun o : Option Sailing => decide (o.map (·.state) = some .boarding)) ∘ fun i => s.sailings[i]) +
        l.countP fun b => (closingBody now b s.sailings[b]).isSome := by
    induction l with
    | nil => rfl
    | cons b l ih =>
      rw [List.countP_cons, List.countP_cons, List.countP_cons, ih]
      have hone := open_eq_boarding_add_closing now b (hs b)
      simp only [Function.comp_apply]
      omega
  exact hsplit _

end Sys2Proof.Machine
end

section
/-! Muster entry taken whole (R147 to R152): the entry put together, and the two requests that take it. -/
namespace Sys2Proof.Machine
open Sys2Proof.Claims

/-- The laws while the transactions of the part end one by one, and the state that muster entry goes on to. -/
structure Evacuating (now : ServiceTime) (goal s : State) : Prop where
  placed : IdlePlaced s
  carried : Carried s
  suspended : NoneSuspended s
  clock : s.now = now
  writes : s.waitingWrites = []
  activation : s.waitingActivation = none
  entered : musterEntered s now = goal

section
variable {s : State} {now : ServiceTime} {goal : State}

theorem noneSuspended_settled {u : State} (hs : NoneSuspended s) {g : Gate} {n : Nat} {F : Sailing → Sailing} (hF : Settles n F)
    (hsailings : u.sailings = (onSailingOf s g F).sailings) : NoneSuspended u := by
  intro b sl hsl
  rw [hsailings] at hsl
  unfold onSailingOf at hsl
  dsimp only at hsl
  split at hsl
  · rw [getElem_set_fin] at hsl
    split at hsl
    · obtain ⟨sl', hsl', rfl⟩ := Option.map_eq_some_iff.mp hsl
      rw [hF.state]
      exact hs _ sl' hsl'
    · exact hs b sl hsl
  · exact hs b sl hsl

/-- The first transaction of the first gate that has one ends. -/
theorem Evacuating.musterTx {g : Gate} {t : Transaction} {rest : List Transaction} (hs : Evacuating now goal s)
    (hfirst : ∀ g' < g, s.gates[g'].list = []) (hl : s.gates[g].list = t :: rest) :
    Evacuating now goal (State.musterTx g s t) := by
  have hno := hs.placed.1.no_deciding g
  have hfind := findTap_head hl
  have hplaced := hs.placed.musterTx hl
  obtain ⟨⟨⟨-, hidle⟩, hplaces, -⟩, hcarried, hsuspended, hclock, hwrites, hactivation, hentered⟩ := hs
  unfold State.musterTx at hplaced ⊢
  split at hplaced
  · rename_i wait hstate
    have hpending : t.isPending = true := by simp [Transaction.isPending, hstate]
    exact ⟨hplaced, hcarried.ended hfind (not_awaiting_of_pending hpending) rfl rfl, hsuspended, hclock, hwrites, hactivation,
      (musterEntered_pending hl hno hpending).trans hentered⟩
  · rename_i a ht
    rw [State.endNotBoarded_eq, hclock] at hplaced ⊢
    exact ⟨hplaced, hcarried.notBoarded hfind ht .voided now, noneSuspended_settled hsuspended (settles_notBoarded a) rfl,
      hclock, hwrites, hactivation, (musterEntered_awaiting hidle hplaces hfirst hl hno ht
        fun k hk => hcarried.inFlight hfind ht hk).trans hentered⟩
  · exact ⟨hplaced, hcarried, hsuspended, hclock, hwrites, hactivation, hentered⟩

/-- The decision abandoned and what waited applied, the transactions begin to end. -/
theorem evacuating_abandoned (haccounted : Accounted s) (hplaces : PlacesKept s) (huses : UsesKept s)
    (hwaiters : WaitersHaveCause s) (hin : s.service = .inService) (hclock : s.clock = some now) :
    Evacuating now (musterEntered s now) s.abandonDecision.applyActivation := by
  obtain ⟨hfits, htrue, -⟩ := (placesKept_iff s).mp hplaces
  have hsuspended : NoneSuspended s := fun b sl hsl => hfits.not_suspended hin hsl
  have hcarried := carried_of_usesKept huses
  have hnow : s.now = now := by rw [State.now, hclock]; rfl
  have hentered := musterEntered_abandoned (now := now) haccounted hwaiters
  have hplaced := idlePlaced_abandoned haccounted htrue (hfits.equipped hin)
  rw [State.applyActivation_eq] at hentered hplaced ⊢
  cases hengine : s.engine with
  | none =>
    have hwrites : s.waitingWrites = [] := by
      by_contra h
      have hsearching := hwaiters.1 h
      rw [State.not_searching_of_idle hengine] at hsearching
      cases hsearching
    rw [State.abandonDecision_none hengine] at hentered hplaced ⊢
    exact ⟨hplaced, hcarried, hsuspended, hnow, hwrites, rfl, hentered⟩
  | some d =>
    obtain ⟨t, hfind, hstate⟩ := haccounted.deciding hengine
    rw [State.abandonDecision_eq hengine] at hentered hplaced ⊢
    exact ⟨hplaced, hcarried.ended hfind (not_awaiting_of_deciding hstate) rfl rfl, hsuspended, hnow, rfl, rfl, hentered⟩

/-- With every list empty, muster entry is the berths in order and the modes. -/
theorem Evacuating.finish (hs : Evacuating now goal s) (hempty : ∀ g : Gate, s.gates[g].list = []) :
    modesSent { (List.finRange 4).foldl State.musterBerth s with service := .muster } = goal := by
  obtain ⟨⟨⟨haccounted, hidle⟩, hplaces, -⟩, hcarried, hsuspended, hclock, hwrites, hactivation, hentered⟩ := hs
  have hcleared : Cleared now s := ⟨hidle, hempty, hclock⟩
  have hgates : s.gates.map GateContext.evacuated =
      s.gates.map fun c => { c with modeSent := some (modeFor .muster c.state) } := vector_ext_fin fun g => by
    rw [getElem_map_fin, getElem_map_fin, GateContext.evacuated, if_neg fun h => h.2 (hempty g), ← hempty g]
    rfl
  have hlane (g : Gate) : evacuatedLane s.laneOut[g] s.gates[g] =
      s.laneOut[g] ++ if s.gates[g].modeSent = some .freeEgress then [] else [.gateMode .freeEgress] := by
    rw [evacuatedLane, musterAnswers, hempty g]
    simp
  have hslots : s.slots.map (fun o => o.map PassSlot.withdrawn) = s.slots := vector_ext_fin fun k => by
    have hcount := hcarried k
    rw [countOf_of_empty hempty] at hcount
    rw [getElem_map_fin]
    cases hp : s.slots[k] with
    | none => rfl
    | some p =>
      have hnot : ¬ p.inFlight = true := fun h => by
        rw [hp, Option.map_some, h, if_pos rfl] at hcount
        cases hcount
      rw [Option.map_some, PassSlot.withdrawn, if_neg hnot]
  have hsailings : ((List.finRange 4).foldl State.musterBerth s).sailings = s.sailings.map evacuatedSailing :=
    vector_ext_fin fun b => by
      have hheld := (hplaces b).1
      rw [countOf_of_empty hempty] at hheld
      rw [foldl_musterBerth_sailings, if_pos (List.mem_finRange b), getElem_map_fin]
      cases hsl : s.sailings[b] with
      | none => rfl
      | some sl =>
        rw [hsl] at hheld
        have hzero : sl.held = 0 := hheld.symm
        by_cases hclosing : sl.state = .closing <;> simp [mustered, evacuatedSailing, hclosing, hzero]
  have hbodies : evacuationBodies now s.gates s.sailings = closingBodies now s.sailings (List.finRange 4) := by
    have hnone : ((List.finRange 16).flatMap fun g => voidedBodies now g s.gates[g]) = [] :=
      List.flatMap_eq_nil_iff.mpr fun g _ => by rw [voidedBodies, hempty g, List.filterMap_nil]
    rw [evacuationBodies, hnone, List.nil_append]
  have hreserved : s.reserved - (closingBodies now s.sailings (List.finRange 4)).length = boardingIn s.sailings := by
    have hsum := (accounted_iff_agreed.mp haccounted).reserved_eq
    rw [countOf_of_empty hempty, openIn_eq_boarding_add_closing hsuspended now] at hsum
    omega
  rw [← hentered, musterEntered_eq, hcleared.foldl_musterBerth (List.finRange 4) (List.nodup_finRange 4)]
  simp only [hsailings, modesSent, hgates, hlane, hslots, hbodies, hreserved, hidle, hwrites, hactivation, musterReplies,
    List.map_nil, List.append_nil, List.foldl_nil, Option.isSome_none, Bool.false_and, Bool.or_false, modeFor] <;> rfl

/-- Muster entry, whole (R147 to R152). -/
theorem State.musterEntry_eq (haccounted : Accounted s) (hplaces : PlacesKept s) (huses : UsesKept s)
    (hwaiters : WaitersHaveCause s) (hin : s.service = .inService) (hclock : s.clock = some now) :
    s.musterEntry = musterEntered s now := by
  obtain ⟨s1, hs1, hempty, heq⟩ := State.musterEntry_keeps (P := Evacuating now (musterEntered s now))
    (evacuating_abandoned haccounted hplaces huses hwaiters hin hclock) (fun _ hs g => hs.placed.1.no_deciding g)
    (fun _ _ _ _ hs hfirst hl _ => hs.musterTx hfirst hl)
  rw [heq, hs1.finish hempty]

end

/-- Settles O15: the line takes muster entry at once, MUSTER_START before its REPLY. -/
theorem musterEntryTakenWhole : Obligations.MusterEntryTakenWhole := by
  intro s now hphase hin hclock haccounted hplaces huses hwaiters
  refine ⟨fun hline => ?_, fun tag rest hoffers => ?_⟩
  · have hentry := State.musterEntry_eq (s := { s with musterLine := true }) haccounted hplaces huses hwaiters hin hclock
    rw [show exec .musterLineAsserted s = execMusterLineAsserted s from rfl, execMusterLineAsserted,
      if_neg (by rw [hline]; decide), if_pos ⟨hphase, hin⟩, hentry]
  · have hentry := State.musterEntry_eq (s := { s with receiveList := rest, commandRequest := true })
      haccounted hplaces huses hwaiters hin hclock
    rw [show exec .musterStart s = execMusterStart s from rfl, execMusterStart, takeFrame_of_offers hoffers parseNothing_nil]
    simp only [musterStart, if_pos hin, hentry]
    rfl

end Sys2Proof.Machine
end
